-- ==== Sys2Proof/Word.lean ====
section
/-! DEFINITION. The byte of the message link (spec/10_the_message_link.md R163, R164). -/

namespace Sys2Proof

/-- One character of the link carries 8 data bits (R163). -/
abbrev Byte := BitVec 8

end Sys2Proof
end

