-- ==== Sys2Proof/Syntax.lean ====
section
/-! DEFINITION. The commands of the PF440: one constructor per row of spec/opcode_table.json.

A command is one indivisible step (spec/95_what_each_step_holds.md). It comes from the host (a request frame, a
character), from the cell (a line, a drive report) or from time (an expiry). -/

namespace Sys2Proof

/-- The four saw lanes, numbered 1..4 (spec/00_scope.md, Unit numbering). -/
inductive LaneNo where
  | l1 | l2 | l3 | l4
  deriving DecidableEq, Repr

/-- The four gantry axes (spec/00_scope.md, Gantry axes). -/
inductive Axis where
  | x | y | z | c
  deriving DecidableEq, Repr

/-- What a request frame carries besides its kind: bytes 3, 4 and the payload of R164. -/
structure Body where
  /-- byte 3: the tag chosen by the host -/
  tag : Byte
  /-- byte 4: bit 0 asks for a summary, bits 1..7 are ignored (R170) -/
  flags : Byte
  /-- the payload bytes, in frame order (R165) -/
  payload : List Byte
  deriving DecidableEq, Repr

/-- The commands. A request's constructor carries the frame the host sends (log 1). A line's constructor whose falling
edge has no row of its own carries the level the line takes: `true` is the row's event (log 3). -/
inductive Instr where
  /-- power-up or release of the reset pin, with the levels of BAUD1 and BAUD0 (R163, R183) -/
  | powerOnReset (strap1 strap0 : Bool)
  /-- a character taken at its stop bit; `parityOk` is false for a parity or framing error (R166, R167); `z` is the Z
  drive's position report at that moment, read only when the character completes a RESUME (log 5) -/
  | characterReceived (value : Byte) (parityOk : Bool) (z : Nat := 0)
  /-- the gap timer runs out (R166) -/
  | gapTimerExpiry
  /-- RX at space for more than 2 character times (R167) -/
  | lineBreak
  /-- a request frame whose kind is outside 0x01..0x22 (R170) -/
  | unknownKindRequest (kind : Byte) (body : Body)
  | queryStatus (body : Body)
  | readFault (body : Body)
  | setModes (body : Body)
  | setTravel (body : Body)
  | readConfig (body : Body)
  | partitionStore (body : Body)
  | restart (body : Body)
  /-- the store clearing of STARTING, PARTITIONING or RESTARTING ends (R171) -/
  | storeClearingEnd
  /-- the waiting reply of a finished clearing is placed (R171) -/
  | waitingReplyPlaced
  | defineType (body : Body)
  | dropType (body : Body)
  | setTypeCursor (body : Body)
  | readTypes (body : Body)
  | enqueueJob (body : Body)
  | amendJob (body : Body)
  | cancelJob (body : Body)
  | readJob (body : Body)
  | setListCursor (body : Body)
  | listJobs (body : Body)
  | setStack (body : Body)
  | loadStack (body : Body)
  | unloadStack (body : Body)
  | readStacks (body : Body)
  | setLane (body : Body)
  | parkLane (body : Body)
  | unparkLane (body : Body)
  | closeBook (body : Body)
  | readLane (body : Body)
  | home (body : Body)
  | run (body : Body)
  | hold (body : Body)
  | halt (body : Body)
  /-- RESUME, with the Z drive's position report at that moment, read for a contact found asserted (R120, R143, log 5) -/
  | resume (body : Body) (z : Nat := 0)
  | abort (body : Body)
  | clearFault (body : Body)
  | releaseHeld (body : Body)
  /-- the idle age of a lane reaches the starve time (R102) -/
  | starveCrossing (lane : LaneNo)
  /-- HOST-READY takes a level (R175); `false` is its deassertion (log 3) -/
  | hostReadyAsserted (level : Bool)
  /-- the transmitter starts a frame (R175, R176); `z` is the Z drive's position report at that moment, read only when the
  frame held behind a leaving reply is a RESUME (R170, log 5) -/
  | frameStart (z : Nat := 0)
  /-- the transmitter ends a frame (R175) -/
  | frameSent
  | safetyLineAsserted
  | safetyLineReleased
  /-- a drive reports in-position; `stale` marks a report for an earlier or stopped move (R118, R137), `z` is the Z
  drive's position report at that moment (log 5) -/
  | inPositionReport (axis : Axis) (stale : Bool) (z : Nat)
  /-- the dry move time has elapsed from the issue of the modelled move (R118, R139) -/
  | dryMoveElapsed
  /-- a drive reports homed; `stale` marks a report left over from an earlier homing (R139) -/
  | homedReport (axis : Axis) (stale : Bool)
  /-- the contact sensor takes a level, with the Z drive's position report at that moment (R120) -/
  | contactAsserted (level : Bool) (z : Nat)
  /-- the grip settle counter reaches zero, with the level GRIP-LEVEL reads then (R124) -/
  | gripSettleExpiry (gripLevel : Bool)
  /-- the release settle counter reaches zero (R128, R147) -/
  | releaseSettleExpiry
  /-- HOLD-LOST takes a level (R126, R153) -/
  | dropFault (level : Bool)
  /-- a drive-fault report takes a level (R153) -/
  | driveFaultAsserted (axis : Axis) (level : Bool)
  /-- the limit input takes a level (R153) -/
  | limitAsserted (level : Bool)
  /-- a debounced TAKEN pulse (R76, R88) -/
  | takenPulse (lane : LaneNo)
  | sawReadyRise (lane : LaneNo)
  | sawReadyFall (lane : LaneNo)
  /-- the lane timer reaches zero (R87) -/
  | laneTimerExpiry (lane : LaneNo)
  /-- the book-wait timer reaches zero (R85) -/
  | bookWaitExpiry (lane : LaneNo)
  /-- the reset pin goes to its active level, or the supply is lost (R183) -/
  | resetPinAsserted
  deriving DecidableEq, Repr

end Sys2Proof
end

