-- ==== Sys2Proof/Decode.lean ====
section
/-! DEFINITION. The command a word spells by the table's bits. spec/opcode_table.json gives no row any bits
("n_rows_with_fixed": 0, "n_rows_with_fields": 0 in spec/98_reader.md), so no word spells a command. The frames of the
message link, which do encode requests, are decoded by Sys2Proof/Machine/Link.lean from the received characters. -/

namespace Sys2Proof

/-- No row of the table has bits. -/
def decodeTableWord (_nbits _w : Nat) : Option Instr :=
  none

end Sys2Proof
end

