-- ==== Sys2Proof/Config.lean ====
section
/-! DEFINITION. The values the manual leaves open. Each is a constant without a body, so nothing can be proved of it.
The fixed and settable values of the part stand in State (settings) and in the definitions that use them. -/

namespace Sys2Proof

/-- The 2-byte idle-since age of READ LANE when the age in seconds does not fit 2 bytes (R95, R165 give no value).
DESIGN CHOICE, safe: a free value, notes/assumptions/10.md. -/
opaque Config.idleAgeBeyond : Nat → BitVec 16

/-- Whether a started second counts as a whole one where READ LANE gives a time of so many milliseconds in seconds (R95 does
not say). DESIGN CHOICE, safe: a free value, notes/assumptions/10.md. -/
opaque Config.startedSecondCounts : Nat → Bool

/-- The grip settle time of a type entry that holds no class 1..4, an undefined entry (R9 gives times for classes 1..4).
DESIGN CHOICE, safe: a free value, notes/assumptions/15.md; a transfer's type is always defined (R11, R13). -/
opaque Config.gripSettleNoClass : Nat → Nat

end Sys2Proof
end

