-- ==== Sys2Proof/Machine/State.lean ====
section
/-! DEFINITION. The state of the PF440, block by block as in the table "Functional blocks" of spec/00_scope.md, the
reasons a step can stop (none is ever given) and the state after power-on reset. -/

namespace Sys2Proof.Machine

/-! ## Small types -/

/-- Floor stacks 1..8 (spec/00_scope.md). -/
inductive StackNo where
  | k1 | k2 | k3 | k4 | k5 | k6 | k7 | k8
  deriving DecidableEq, Repr

/-- One value for each saw lane. -/
structure PerLane (α : Type) where
  l1 : α
  l2 : α
  l3 : α
  l4 : α
  deriving DecidableEq, Repr

/-- One value for each floor stack. -/
structure PerStack (α : Type) where
  k1 : α
  k2 : α
  k3 : α
  k4 : α
  k5 : α
  k6 : α
  k7 : α
  k8 : α
  deriving DecidableEq, Repr

/-- A set of axes, or one level per axis. -/
structure AxisSet where
  x : Bool
  y : Bool
  z : Bool
  c : Bool
  deriving DecidableEq, Repr

/-- Head rotation at placing, in degrees (R18). -/
inductive Rotation where
  | r0 | r90
  deriving DecidableEq, Repr

/-- A table's direction sign (R73). -/
inductive Sign where
  | plus | minus
  deriving DecidableEq, Repr

/-- A set of vacuum zones, bit k-1 for zone k (R165). -/
abbrev ZoneMask := BitVec 8

/-! ## Message link (spec/10_the_message_link.md) -/

/-- The receiver: hunting, or assembling with the characters taken so far (R166). -/
inductive Receiver where
  | hunting
  | assembling (bytes : List Byte)
  deriving DecidableEq, Repr

/-- The link error kinds (R169). -/
inductive LinkError where
  | none | parity | gap | length | check | break | overrun
  deriving DecidableEq, Repr

/-- A complete request frame (R164). -/
structure Frame where
  kind : Byte
  body : Body
  deriving DecidableEq, Repr

/-- A reply in the reply slot, its summary included in the payload (R164, R170). -/
structure Reply where
  kind : Byte
  tag : Byte
  result : Byte
  payload : List Byte
  deriving DecidableEq, Repr

/-- The Link Port (R163, R168, R169, R175). -/
structure Link where
  rx : Receiver
  /-- the held frame (R168) -/
  held : Option Frame
  /-- the reply slot (R170) -/
  slot : Option Reply
  /-- the transmitter: idle, or sending these bytes (R175) -/
  tx : Option (List Byte)
  lastError : LinkError
  /-- the baud code read from the straps at power-on (R163, R182) -/
  baud : Nat
  deriving DecidableEq, Repr

/-- The partitions of the store (R1). -/
inductive Partition where
  | p0 | p1 | p2 | p3
  deriving DecidableEq, Repr

/-- The decoder states (R170); a clearing started by a request remembers the request it answers (R171). -/
inductive Decoder where
  | ready
  | starting
  | partitioning (target : Partition) (request : Frame)
  | restarting (request : Frame)
  deriving DecidableEq, Repr

/-- The reply of a finished clearing, waiting for the slot (R171); its summary is built when it is placed (R173). -/
structure WaitingReply where
  request : Frame
  payload : List Byte
  deriving DecidableEq, Repr

/-! ## Panel store and job list (spec/01, spec/02) -/

/-- A type entry (R8); the entry of zeros is the undefined one (R2). -/
structure TypeEntry where
  len : Nat
  wid : Nat
  thk : Nat
  cls : Nat
  mask : ZoneMask
  zones : Nat
  deriving DecidableEq, Repr

inductive JobState where
  | queued | active | complete | cancelled | failed
  deriving DecidableEq, Repr

/-- Why the Dispatcher failed a job (R18). -/
inductive Reason where
  | reach | fit
  deriving DecidableEq, Repr

/-- A job entry (R18); `lane` is `none` for ANY. -/
structure Job where
  tag : Nat
  type : Nat
  stack : StackNo
  lane : Option LaneNo
  rotation : Rotation
  pattern : Nat
  urgent : Bool
  count : Nat
  placed : Nat
  rejected : Nat
  lost : Nat
  clamped : Nat
  state : JobState
  reason : Option Reason
  cancelPending : Bool
  inFlight : Bool
  deriving DecidableEq, Repr

/-- The circular list (R21): the start pointer and the entries in list order; entry k (from 0) is in slot
(start + k) mod J. The load cursor and the entry count are computed from these (log 14). -/
structure JobList where
  start : Nat
  entries : List Job
  deriving DecidableEq, Repr

/-- The Panel Store (R1, R2, R14, R16): the defined type entries by rising type number, the cursors, the job list. -/
structure Store where
  partition : Partition
  types : List (Nat × TypeEntry)
  typeCursor : Nat
  listCursor : Nat
  jobs : JobList
  deriving DecidableEq, Repr

/-! ## Stacks (spec/03) -/

/-- A stack record (R42). -/
structure StackRec where
  geometrySet : Bool
  xs : Nat
  ys : Nat
  zf : Nat
  present : Bool
  type : Nat
  count : Nat
  suspect : Bool
  emptyFlag : Bool
  suspectFlag : Bool
  deriving DecidableEq, Repr

/-! ## Lanes and books (spec/05) -/

inductive TimerMode where
  | off | monitor | pace
  deriving DecidableEq, Repr

/-- A lane's configuration (R73). -/
structure LaneConfig where
  xf : Nat
  yf : Nat
  sx : Sign
  sy : Sign
  lt : Nat
  wt : Nat
  zt : Nat
  hmax : Nat
  countLimit : Nat
  timerMode : TimerMode
  timerTime : Nat
  bookWait : Nat
  deriving DecidableEq, Repr

/-- The book key (R80). -/
structure Key where
  type : Nat
  pattern : Nat
  rotation : Rotation
  deriving DecidableEq, Repr

/-- The book record (R80): key, the tags in placing order, the height H. -/
structure Book where
  key : Key
  tags : List Nat
  height : Nat
  deriving DecidableEq, Repr

/-- The lane states; a book record is present exactly while FILLING or HANDED (R75, R80). -/
inductive LaneState where
  | parked
  | idle
  | filling (book : Book)
  | handed (book : Book)
  deriving DecidableEq, Repr

/-- A Lane Unit (R73, R75, R85, R87, R94). Timers hold the milliseconds left while they run. -/
structure Lane where
  configured : Bool
  cfg : LaneConfig
  state : LaneState
  parkRequest : Bool
  inbound : Bool
  closePending : Bool
  stalled : Bool
  laneTimer : Option Nat
  bookTimer : Option Nat
  noteHanded : Bool
  noteParked : Bool
  noteStalled : Bool
  noteSpurious : Bool
  /-- the hand-over report (R94) -/
  report : Option Book
  deriving DecidableEq, Repr

/-- A place in the idle queue (R79) with the lane's idle age in milliseconds (R101). -/
structure IdleEntry where
  lane : LaneNo
  age : Nat
  deriving DecidableEq, Repr

/-! ## Dispatcher and transfer (spec/06, spec/07) -/

inductive RunMode where
  | run | hold
  deriving DecidableEq, Repr

/-- The phases of a transfer and of the put-down (R115). -/
inductive Phase where
  | toStack | search | grip | lift | toLane | lower | release | rise | retreat
  | toReject | rejectLower | rejectRelease | rejectRise
  deriving DecidableEq, Repr

/-- SEARCH has an approach and a search descent (R120), TO_REJECT a rise and a traverse step (R146). -/
inductive Leg where
  | first | second
  deriving DecidableEq, Repr

/-- The search window, with the contact tolerance it was made with (R61, R121). -/
structure SearchWindow where
  start : Nat
  limit : Nat
  tolerance : Nat
  deriving DecidableEq, Repr

/-- The transfer record (R114). `rejectZ` is computed at entry into ABORTING (R146). -/
structure Transfer where
  jobTag : Nat
  jobSlot : Nat
  stack : StackNo
  lane : LaneNo
  key : Key
  mask : ZoneMask
  pickX : Nat
  pickY : Nat
  placeX : Nat
  placeY : Nat
  clampPickX : Bool
  clampPickY : Bool
  clampPlaceX : Bool
  clampPlaceY : Bool
  ze : Nat
  placeZ : Nat
  window : Option SearchWindow
  phase : Phase
  leg : Leg
  attempts : Nat
  zc : Option Nat
  held : Bool
  rejectZ : Option Nat
  deriving DecidableEq, Repr

/-- A settle counter (R123, R127, R142), with the milliseconds left. -/
inductive Counter where
  | stopped
  | running (left : Nat)
  | paused (left : Nat)
  deriving DecidableEq, Repr

/-! ## Gantry Control (spec/08) -/

inductive HomingStep where
  | one | two | three
  deriving DecidableEq, Repr

/-- What a halt remembers (R136); the remembered phase is the record's (R136). -/
inductive Remembered where
  | homing | idle | cycling | aborting
  deriving DecidableEq, Repr

/-- The gantry state with its homing step or remembered state (R136). -/
inductive Gantry where
  | unhomed
  | homing (step : HomingStep)
  | idle
  | cycling
  | halted (was : Remembered)
  | aborting
  | fault
  deriving DecidableEq, Repr

/-- The modelled head (R136, R150). -/
structure Head where
  x : Nat
  y : Nat
  z : Nat
  c : Nat
  deriving DecidableEq, Repr

/-- An axis target (R137); C is in degrees. `search` is the speed mark. -/
structure Target where
  axis : Axis
  pos : Nat
  search : Bool
  deriving DecidableEq, Repr

/-- A command on a drive port (8.2). -/
inductive DriveCommand where
  | target (t : Target)
  | home (axis : Axis)
  | stop (axis : Axis)
  deriving DecidableEq, Repr

/-- What the current phase or homing step waits for: nothing, the reports of these axes (R118, R139), or the end of a
modelled move in dry run with its targets and the milliseconds left (R118, R151). -/
inductive Move where
  | still
  | awaiting (axes : AxisSet)
  | modelled (left : Nat) (targets : List Target)
  deriving DecidableEq, Repr

/-- Gantry Control (R136, R152). -/
structure GantryCtl where
  state : Gantry
  dryRun : Bool
  head : Option Head
  lastX : Nat
  lastY : Nat
  lastZ : Nat
  noteHomed : Bool
  noteHalted : Bool
  /-- the model's own: what the phase waits for -/
  move : Move
  /-- the model's own: what the latest command put on the drive ports, in order (log 16) -/
  driveOut : List DriveCommand
  deriving DecidableEq, Repr

/-! ## Fault Record (spec/09) -/

inductive FaultKind where
  | driveX | driveY | driveZ | driveC | limit | drop
  deriving DecidableEq, Repr

/-- The gantry state a first fault found (R154). -/
inductive FaultState where
  | homing | cycling | aborting | halted
  deriving DecidableEq, Repr

/-- The fault entry (R154). -/
structure FaultEntry where
  kind : FaultKind
  found : FaultState
  remembered : Option Remembered
  phase : Option Phase
  jobTag : Option Nat
  held : Bool
  lastX : Nat
  lastY : Nat
  lastZ : Nat
  further : Nat
  deriving DecidableEq, Repr

/-- The Fault Record (R154, R158). -/
structure FaultRecord where
  entry : Option FaultEntry
  note : Bool
  reportKind : Option FaultKind
  reportCount : Nat
  deriving DecidableEq, Repr

/-! ## Notice Arbiter (spec/10) -/

/-- An entry of the job notice FIFO (R35). -/
structure JobNotice where
  tag : Nat
  final : JobState
  reason : Option Reason
  placed : Nat
  rejected : Nat
  lost : Nat
  clamped : Nat
  deriving DecidableEq, Repr

/-- The job notice FIFO, oldest first, and job-notice-lost (R178). -/
structure Notices where
  fifo : List JobNotice
  lost : Bool
  deriving DecidableEq, Repr

/-! ## Settings (spec/11) -/

inductive Rounding where
  | towardDatum | away | even
  deriving DecidableEq, Repr

/-- The SET MODES settings (R179); the dry-run flag is Gantry Control's (R136). -/
structure Modes where
  rounding : Rounding
  window : Nat
  starve : Nat
  dryMove : Nat
  settle1 : Nat
  settle2 : Nat
  settle3 : Nat
  settle4 : Nat
  release : Nat
  contactTol : Nat
  clampTol : Nat
  deriving DecidableEq, Repr

/-- The SET TRAVEL settings (R180). -/
structure Travel where
  xMin : Nat
  xMax : Nat
  yMin : Nat
  yMax : Nat
  zMin : Nat
  zMax : Nat
  ztravel : Nat
  xr : Nat
  yr : Nat
  zr : Nat
  deriving DecidableEq, Repr

/-! ## Inputs -/

/-- The debounced levels of the input lines (R183, R185), and the Z drive's position report, as
IN_POSITION_REPORT or CONTACT_ASSERTED last gave it (R137, log 5). -/
structure Inputs where
  safety : Bool
  hostReady : Bool
  contact : Bool
  holdLost : Bool
  driveFault : AxisSet
  limit : Bool
  sawReady : PerLane Bool
  zReport : Nat
  deriving DecidableEq, Repr

/-! ## The state -/

/-- The whole part, and the queue of the commands that wait for it. -/
structure State where
  /-- the model's own: the waiting commands, first in first out (log 1) -/
  pending : List Instr
  /-- the reset pin is at its active level (R183) -/
  resetHeld : Bool
  inputs : Inputs
  link : Link
  decoder : Decoder
  waiting : Option WaitingReply
  store : Store
  stackTable : PerStack StackRec
  lanes : PerLane Lane
  idleQueue : List IdleEntry
  fillingOrder : List LaneNo
  runMode : RunMode
  transfer : Option Transfer
  gripCounter : Counter
  releaseCounter : Counter
  /-- the opened zones in the bookkeeping (R117) -/
  valves : ZoneMask
  /-- the blow-off in the bookkeeping (R117) -/
  blowOff : Bool
  gantry : GantryCtl
  fault : FaultRecord
  notices : Notices
  modes : Modes
  travel : Travel
  deriving DecidableEq, Repr

/-- Why the machine stops with a fault: it never does. The part's own faults (R153) are states it goes on from, so no
command of this model raises one (safe). The type has no constructor. -/
inductive Fault where
  deriving DecidableEq, Repr

/-- Why a command has no meaning. -/
inductive Refusal where
  /-- raised only by an arm of exec whose command has no meaning yet (safe); no arm does -/
  | notModelled (mnemonic : String)
  deriving DecidableEq, Repr

/-! ## Power-on values -/

/-- R54. -/
def StackRec.powerOn : StackRec :=
  { geometrySet := false, xs := 0, ys := 0, zf := 0, present := false, type := 0, count := 0, suspect := false,
    emptyFlag := false, suspectFlag := false }

/-- R96. -/
def LaneConfig.powerOn : LaneConfig :=
  { xf := 0, yf := 0, sx := .plus, sy := .plus, lt := 0, wt := 0, zt := 0, hmax := 0, countLimit := 1,
    timerMode := .off, timerTime := 1, bookWait := 0 }

/-- R96. -/
def Lane.powerOn : Lane :=
  { configured := false, cfg := .powerOn, state := .parked, parkRequest := false, inbound := false,
    closePending := false, stalled := false, laneTimer := none, bookTimer := none, noteHanded := false,
    noteParked := false, noteStalled := false, noteSpurious := false, report := none }

/-- R6: partition P1, no job, no type, every pointer and cursor 0. -/
def Store.powerOn : Store :=
  { partition := .p1, types := [], typeCursor := 0, listCursor := 0, jobs := { start := 0, entries := [] } }

/-- R163: hunting, nothing held, nothing to send, no error. -/
def Link.powerOn (baud : Nat) : Link :=
  { rx := .hunting, held := none, slot := none, tx := none, lastError := .none, baud := baud }

/-- R136. -/
def GantryCtl.powerOn : GantryCtl :=
  { state := .unhomed, dryRun := false, head := none, lastX := 0, lastY := 0, lastZ := 0, noteHomed := false,
    noteHalted := false, move := .still, driveOut := [] }

/-- R162. -/
def FaultRecord.powerOn : FaultRecord :=
  { entry := none, note := false, reportKind := none, reportCount := 0 }

/-- R179. -/
def Modes.powerOn : Modes :=
  { rounding := .towardDatum, window := 8, starve := 0, dryMove := 500, settle1 := 150, settle2 := 250,
    settle3 := 400, settle4 := 600, release := 80, contactTol := 60, clampTol := 20 }

/-- R180. -/
def Travel.powerOn : Travel :=
  { xMin := 0, xMax := 65000, yMin := 0, yMax := 30000, zMin := 0, zMax := 25000, ztravel := 20000, xr := 0,
    yr := 0, zr := 0 }

/-- No input asserted. The manual gives the lines no level at reset: DESIGN CHOICE, unsafe, log 6. -/
def Inputs.quiet : Inputs :=
  { safety := false, hostReady := false, contact := false, holdLost := false,
    driveFault := { x := false, y := false, z := false, c := false }, limit := false,
    sawReady := { l1 := false, l2 := false, l3 := false, l4 := false }, zReport := 0 }

/-- The part right after power-on reset (R183): every block in its power-on state, the decoder STARTING while the store
clears in partition P1. Input levels and straps are DESIGN CHOICE (log 6). -/
def State.reset : State :=
  { pending := [], resetHeld := false, inputs := .quiet, link := .powerOn 0, decoder := .starting, waiting := none,
    store := .powerOn,
    stackTable := { k1 := .powerOn, k2 := .powerOn, k3 := .powerOn, k4 := .powerOn, k5 := .powerOn, k6 := .powerOn,
                    k7 := .powerOn, k8 := .powerOn },
    lanes := { l1 := .powerOn, l2 := .powerOn, l3 := .powerOn, l4 := .powerOn },
    idleQueue := [], fillingOrder := [], runMode := .hold, transfer := none, gripCounter := .stopped,
    releaseCounter := .stopped, valves := 0, blowOff := false, gantry := .powerOn, fault := .powerOn,
    notices := { fifo := [], lost := false }, modes := .powerOn, travel := .powerOn }

end Sys2Proof.Machine
end

