-- ==== Sys2Proof/Machine/Ops.lean ====
section
/-! DEFINITION. The named operations over the state: per-lane and per-stack tables, the panel store, the circular job
list, finishing and retiring jobs, the drive ports. -/

namespace Sys2Proof.Machine

/-! ## Tables -/

def allLanes : List LaneNo :=
  [.l1, .l2, .l3, .l4]

def allStacks : List StackNo :=
  [.k1, .k2, .k3, .k4, .k5, .k6, .k7, .k8]

def allAxes : List Axis :=
  [.x, .y, .z, .c]

def PerLane.get {α : Type} (t : PerLane α) : LaneNo → α
  | .l1 => t.l1
  | .l2 => t.l2
  | .l3 => t.l3
  | .l4 => t.l4

def PerLane.set {α : Type} (t : PerLane α) (l : LaneNo) (v : α) : PerLane α :=
  match l with
  | .l1 => { t with l1 := v }
  | .l2 => { t with l2 := v }
  | .l3 => { t with l3 := v }
  | .l4 => { t with l4 := v }

def PerLane.map {α β : Type} (f : α → β) (t : PerLane α) : PerLane β :=
  { l1 := f t.l1, l2 := f t.l2, l3 := f t.l3, l4 := f t.l4 }

def PerStack.get {α : Type} (t : PerStack α) : StackNo → α
  | .k1 => t.k1
  | .k2 => t.k2
  | .k3 => t.k3
  | .k4 => t.k4
  | .k5 => t.k5
  | .k6 => t.k6
  | .k7 => t.k7
  | .k8 => t.k8

def PerStack.set {α : Type} (t : PerStack α) (k : StackNo) (v : α) : PerStack α :=
  match k with
  | .k1 => { t with k1 := v }
  | .k2 => { t with k2 := v }
  | .k3 => { t with k3 := v }
  | .k4 => { t with k4 := v }
  | .k5 => { t with k5 := v }
  | .k6 => { t with k6 := v }
  | .k7 => { t with k7 := v }
  | .k8 => { t with k8 := v }

def PerStack.map {α β : Type} (f : α → β) (t : PerStack α) : PerStack β :=
  { k1 := f t.k1, k2 := f t.k2, k3 := f t.k3, k4 := f t.k4, k5 := f t.k5, k6 := f t.k6, k7 := f t.k7, k8 := f t.k8 }

def AxisSet.get (t : AxisSet) : Axis → Bool
  | .x => t.x
  | .y => t.y
  | .z => t.z
  | .c => t.c

def AxisSet.set (t : AxisSet) (a : Axis) (v : Bool) : AxisSet :=
  match a with
  | .x => { t with x := v }
  | .y => { t with y := v }
  | .z => { t with z := v }
  | .c => { t with c := v }

def AxisSet.empty : AxisSet :=
  { x := false, y := false, z := false, c := false }

def AxisSet.ofList (as : List Axis) : AxisSet :=
  { x := .x ∈ as, y := .y ∈ as, z := .z ∈ as, c := .c ∈ as }

/-- The axes of the set, in the order X, Y, Z, C. -/
def AxisSet.toList (t : AxisSet) : List Axis :=
  allAxes.filter t.get

def State.lane (s : State) (l : LaneNo) : Lane :=
  s.lanes.get l

def State.setLane (s : State) (l : LaneNo) (v : Lane) : State :=
  { s with lanes := s.lanes.set l v }

def State.stack (s : State) (k : StackNo) : StackRec :=
  s.stackTable.get k

def State.setStack (s : State) (k : StackNo) (v : StackRec) : State :=
  { s with stackTable := s.stackTable.set k v }

/-! ## The panel store (spec/01) -/

/-- J of R1. -/
def Partition.jobSlots : Partition → Nat
  | .p0 => 320
  | .p1 => 256
  | .p2 => 192
  | .p3 => 128

/-- T of R1. -/
def Partition.typeSlots : Partition → Nat
  | .p0 => 64
  | .p1 => 128
  | .p2 => 192
  | .p3 => 256

/-- The entry of an undefined type: zero in every field, the empty zone mask (R2, R8). -/
def TypeEntry.undefined : TypeEntry :=
  { len := 0, wid := 0, thk := 0, cls := 0, mask := 0, zones := 0 }

/-- The entry of a type number in the list of defined entries. -/
def lookupType : List (Nat × TypeEntry) → Nat → Option TypeEntry
  | [], _ => none
  | (m, e) :: r, n => if m = n then some e else lookupType r n

/-- Write a defined entry, keeping the numbers rising. -/
def insertType : List (Nat × TypeEntry) → Nat → TypeEntry → List (Nat × TypeEntry)
  | [], n, e => [(n, e)]
  | (m, x) :: r, n, e =>
    if n < m then (n, e) :: (m, x) :: r
    else if n = m then (n, e) :: r
    else (m, x) :: insertType r n e

/-- Make a type undefined. -/
def eraseType : List (Nat × TypeEntry) → Nat → List (Nat × TypeEntry)
  | [], _ => []
  | (m, x) :: r, n => if m = n then r else (m, x) :: eraseType r n

/-- The canonical form of the type region: numbers strictly rising, all at least `lo` and below T. -/
def typesRise (hi : Nat) : Nat → List (Nat × TypeEntry) → Bool
  | _, [] => true
  | lo, (m, _) :: r => lo ≤ m && m < hi && typesRise hi (m + 1) r

/-- J in force. -/
def State.jobSlots (s : State) : Nat :=
  s.store.partition.jobSlots

/-- T in force. -/
def State.typeSlots (s : State) : Nat :=
  s.store.partition.typeSlots

/-- The defined flag of a type number (R8); a number outside 0..T-1 names no entry. -/
def State.typeDefined (s : State) (n : Nat) : Bool :=
  n < s.typeSlots && (lookupType s.store.types n).isSome

/-- The entry of a type number as it is read: zeros when undefined (R2). -/
def State.typeEntry (s : State) (n : Nat) : TypeEntry :=
  (lookupType s.store.types n).getD .undefined

/-- The canonical form of the store: type numbers rising and below T, start pointer below J, at most J entries, cursors
inside their regions (R1, R14, R16, R21). -/
def Store.wf (st : Store) : Bool :=
  typesRise st.partition.typeSlots 0 st.types && st.typeCursor < st.partition.typeSlots &&
    st.listCursor < st.partition.jobSlots && st.jobs.start < st.partition.jobSlots &&
    st.jobs.entries.length ≤ st.partition.jobSlots

/-- The store cleared in a partition (R4, R6). -/
def Store.cleared (p : Partition) : Store :=
  { partition := p, types := [], typeCursor := 0, listCursor := 0, jobs := { start := 0, entries := [] } }

/-- The job region cleared (R7): the types, the partition and the type cursor stay. -/
def Store.clearJobs (st : Store) : Store :=
  { st with listCursor := 0, jobs := { start := 0, entries := [] } }

/-! ## The job list (spec/02) -/

/-- QUEUED and ACTIVE are the live states (2.2). -/
def Job.live (j : Job) : Bool :=
  match j.state with
  | .queued => true
  | .active => true
  | .complete => false
  | .cancelled => false
  | .failed => false

/-- The committed panel count of the entry: placed + (1 if in-flight) (R20). -/
def Job.supplied (j : Job) : Nat :=
  j.placed + (if j.inFlight then 1 else 0)

/-- The remaining panels (R20). -/
def Job.remaining (j : Job) : Nat :=
  j.count - j.supplied

/-- A count that saturates at 999 (R18, R31, R32). -/
def bump999 (n : Nat) : Nat :=
  min 999 (n + 1)

/-- An entry of the list with its slot and its list position, counted from 1 (R21). -/
structure Located where
  slot : Nat
  pos : Nat
  job : Job
  deriving DecidableEq, Repr

/-- The entries with their slots and positions, from the start pointer on (R21). -/
def locateFrom (j start : Nat) : Nat → List Job → List Located
  | _, [] => []
  | k, e :: r => { slot := (start + k) % j, pos := k + 1, job := e } :: locateFrom j start (k + 1) r

def State.located (s : State) : List Located :=
  locateFrom s.jobSlots s.store.jobs.start 0 s.store.jobs.entries

/-- The entry count (R21). -/
def State.entryCount (s : State) : Nat :=
  s.store.jobs.entries.length

/-- The load cursor: the start pointer advanced by the entry count, modulo J (R21). -/
def State.loadCursor (s : State) : Nat :=
  (s.store.jobs.start + s.entryCount) % s.jobSlots

/-- The place of a slot in the list, counted from 0 at the start pointer, if an entry is in it (R21). -/
def State.indexOfSlot (s : State) (slot : Nat) : Option Nat :=
  let k := (slot + s.jobSlots - s.store.jobs.start) % s.jobSlots
  if slot < s.jobSlots ∧ k < s.entryCount then some k else none

/-- The entry in a job slot (R2). -/
def State.jobAt (s : State) (slot : Nat) : Option Job :=
  (s.indexOfSlot slot).bind fun k => s.store.jobs.entries[k]?

/-- The entry carrying a tag, live or finished (R22). -/
def State.findTag (s : State) (tag : Nat) : Option Located :=
  s.located.find? fun e => e.job.tag == tag

/-- Replace the entries of the list. -/
def State.setEntries (s : State) (es : List Job) : State :=
  { s with store := { s.store with jobs := { s.store.jobs with entries := es } } }

/-- Change the entry in a slot. -/
def State.modifyJob (s : State) (slot : Nat) (f : Job → Job) : State :=
  match s.indexOfSlot slot with
  | none => s
  | some k => s.setEntries (s.store.jobs.entries.modify k f)

/-- The dispatch window: positions 1..W, W the smaller of the window depth and the entry count (R37). -/
def State.window (s : State) : List Located :=
  s.located.take s.modes.window

/-- The JOB FINISHED entry of a job (R35). -/
def Job.notice (j : Job) : JobNotice :=
  { tag := j.tag, final := j.state, reason := j.reason, placed := j.placed, rejected := j.rejected, lost := j.lost,
    clamped := j.clamped }

/-- The depth of the job notice FIFO (R178). -/
def fifoDepth : Nat :=
  16

/-- Push a job notice, or set job-notice-lost when the FIFO is full (R35, R178). -/
def State.pushNotice (s : State) (n : JobNotice) : State :=
  if s.notices.fifo.length < fifoDepth then { s with notices := { s.notices with fifo := s.notices.fifo ++ [n] } }
  else { s with notices := { s.notices with lost := true } }

/-- How many finished entries stand at the head. -/
def finishedHead : List Job → Nat
  | [] => 0
  | j :: r => if j.live then 0 else finishedHead r + 1

/-- Retire the finished entries at the head (R36). -/
def State.retire (s : State) : State :=
  let n := finishedHead s.store.jobs.entries
  { s with store := { s.store with jobs :=
      { start := (s.store.jobs.start + n) % s.jobSlots, entries := s.store.jobs.entries.drop n } } }

/-- The change of an entry into a finished state: cancel-pending clears (R19). -/
def Job.finish (j : Job) (st : JobState) (r : Option Reason) : Job :=
  { j with state := st, reason := r, cancelPending := false }

/-- A job enters a finished state: its notice is pushed and the head retires (R19, R35, R36). -/
def State.finishJob (s : State) (slot : Nat) (st : JobState) (r : Option Reason) : State :=
  match s.jobAt slot with
  | none => s
  | some j => ((s.modifyJob slot fun j => j.finish st r).pushNotice (j.finish st r).notice).retire

/-- The entry of the record's job: the entry in the record's slot, if it carries the record's tag (R33). -/
def State.recordJob (s : State) : Option Job :=
  s.transfer.bind fun t => (s.jobAt t.jobSlot).filter fun j => j.tag == t.jobTag

/-- A job effect of the transfer, applied as R33 states. -/
def State.onRecordJob (s : State) (f : Job → Job) : State :=
  match s.transfer, s.recordJob with
  | some t, some _ => s.modifyJob t.jobSlot f
  | _, _ => s

/-! ## The transfer record -/

/-- Change the transfer record, if there is one. -/
def State.onTransfer (s : State) (f : Transfer → Transfer) : State :=
  { s with transfer := s.transfer.map f }

/-- Enter a phase, at its first leg (R114). -/
def State.setPhase (s : State) (p : Phase) : State :=
  s.onTransfer fun t => { t with phase := p, leg := .first }

/-- The held flag of the record; clear with no record (R116, R154). -/
def State.holding (s : State) : Bool :=
  s.transfer.any fun t => t.held

/-! ## The drive ports (spec/08, 8.2) -/

/-- Commands put on the drive ports, in order. -/
def State.emit (s : State) (cs : List DriveCommand) : State :=
  { s with gantry := { s.gantry with driveOut := s.gantry.driveOut ++ cs } }

/-- An issued target on X, Y or Z becomes that axis's last target (R137). -/
def GantryCtl.recordTarget (g : GantryCtl) (t : Target) : GantryCtl :=
  match t.axis with
  | .x => { g with lastX := t.pos }
  | .y => { g with lastY := t.pos }
  | .z => { g with lastZ := t.pos }
  | .c => g

def State.recordTargets (s : State) (ts : List Target) : State :=
  { s with gantry := ts.foldl GantryCtl.recordTarget s.gantry }

def State.setMove (s : State) (m : Move) : State :=
  { s with gantry := { s.gantry with move := m } }

/-- The gantry states in which motion is issued (R137). -/
def Gantry.moves : Gantry → Bool
  | .homing _ => true
  | .cycling => true
  | .aborting => true
  | .unhomed => false
  | .idle => false
  | .halted _ => false
  | .fault => false

/-- The conditions of R137 for a motion command to a drive. -/
def State.motionAllowed (s : State) : Bool :=
  s.gantry.state.moves && !s.inputs.safety && !s.gantry.dryRun

/-- Issue axis targets (R137): in dry run they are recorded and a modelled move begins (R118, R151); outside it they go
to the drives, and the phase waits for the in-position report of each axis named. -/
def State.issue (s : State) (ts : List Target) : State :=
  if s.gantry.dryRun then (s.recordTargets ts).setMove (.modelled s.modes.dryMove ts)
  else if s.motionAllowed then
    ((s.recordTargets ts).emit (ts.map .target)).setMove (.awaiting (AxisSet.ofList (ts.map Target.axis)))
  else s

/-- Issue home commands (R137, R139); in dry run the step lasts the dry move time. -/
def State.issueHome (s : State) (axes : List Axis) : State :=
  if s.gantry.dryRun then s.setMove (.modelled s.modes.dryMove [])
  else if s.motionAllowed then (s.emit (axes.map .home)).setMove (.awaiting (AxisSet.ofList axes))
  else s

/-- The axes whose move is still in progress. -/
def State.axesMoving (s : State) : List Axis :=
  match s.gantry.move with
  | .awaiting axes => axes.toList
  | .still => []
  | .modelled _ _ => []

/-- Stop commands; in dry run none is issued and an unfinished modelled move is discarded (R137). A stopped move
completes nothing (R118). -/
def State.stop (s : State) (axes : List Axis) : State :=
  if s.gantry.dryRun then s.setMove .still
  else
    let left := s.axesMoving.filter fun a => !(axes.contains a)
    (s.emit (axes.map .stop)).setMove (if left.isEmpty then .still else .awaiting (AxisSet.ofList left))

/-- An ordinary target. -/
def goTo (a : Axis) (p : Nat) : Target :=
  { axis := a, pos := p, search := false }

/-- The search descent's target, with the search mark (R137). -/
def searchTo (p : Nat) : Target :=
  { axis := .z, pos := p, search := true }

/-- Rotation in degrees. -/
def Rotation.degrees : Rotation → Nat
  | .r0 => 0
  | .r90 => 90

/-- Change the gantry state. -/
def State.setGantry (s : State) (g : Gantry) : State :=
  { s with gantry := { s.gantry with state := g } }

/-! ## Settle counters -/

/-- A running counter pauses at its present value (R142). -/
def Counter.pause : Counter → Counter
  | .running n => .paused n
  | .stopped => .stopped
  | .paused n => .paused n

/-- The grip settle time in force for a class (R9, R179). -/
def Modes.settleOf (m : Modes) (cls : Nat) : Nat :=
  match cls with
  | 1 => m.settle1
  | 2 => m.settle2
  | 3 => m.settle3
  | 4 => m.settle4
  | n => Config.gripSettleNoClass n

/-- Start the grip settle counter with the time now in force for the record's type (R9, R123). -/
def State.startGrip (s : State) : State :=
  match s.transfer with
  | none => s
  | some t => { s with gripCounter := .running (s.modes.settleOf (s.typeEntry t.key.type).cls) }

/-- Start the release settle counter with the time now in force (R127). -/
def State.startRelease (s : State) : State :=
  { s with releaseCounter := .running s.modes.release }

/-! ## Every command -/

/-- The drive ports carry the commands of the latest command only (log 16). -/
def State.quiet (s : State) : State :=
  { s with gantry := { s.gantry with driveOut := [] } }

/-- A command is taken: under the reset pin no input is taken (R183), else its effect `f` is made. -/
def State.take (s : State) (f : State → State) : Host.Outcome State Fault Refusal :=
  .next (if s.resetHeld then s.quiet else f s.quiet)

end Sys2Proof.Machine
end

