-- ==== Sys2Proof/Machine/Operands.lean ====
section
/-! DEFINITION. Frame fields: reading and writing bytes, the value codes and the request kinds
(spec/10_the_message_link.md R164, R165, R170). -/

namespace Sys2Proof.Machine

/-! ## Bytes -/

/-- The low byte of a number. -/
def byteOf (n : Nat) : Byte :=
  BitVec.ofNat 8 n

/-- A 2-byte field, least significant byte first (R165). -/
def le16 (n : Nat) : List Byte :=
  [byteOf n, byteOf (n / 256)]

/-- yes/no, set/clear, PRESENT/ABSENT (R164). -/
def flagByte (b : Bool) : Byte :=
  if b then 1 else 0

/-- The 1-byte field at an offset of a payload. -/
def u8 (p : List Byte) (i : Nat) : Nat :=
  (p.getD i 0).toNat

/-- The 2-byte field at an offset of a payload. -/
def u16 (p : List Byte) (i : Nat) : Nat :=
  u8 p i + 256 * u8 p (i + 1)

/-- The byte of a set of flags, first flag in bit 0. -/
def bits : List Bool → Nat
  | [] => 0
  | b :: r => (if b then 1 else 0) + 2 * bits r

/-- The sum of bytes modulo 256 (R164). -/
def byteSum (bs : List Byte) : Byte :=
  bs.foldl (· + ·) 0

/-- A frame: start, length, three header bytes, payload, and the check that makes the sum a multiple of 256 (R164). -/
def frameBytes (kind b3 b4 : Byte) (payload : List Byte) : List Byte :=
  let body := [0xA6, byteOf payload.length, kind, b3, b4] ++ payload
  body ++ [0 - byteSum body]

/-! ## Value codes (R164) -/

def laneCode : LaneNo → Nat
  | .l1 => 1
  | .l2 => 2
  | .l3 => 3
  | .l4 => 4

def laneOf (n : Nat) : Option LaneNo :=
  match n with
  | 1 => some .l1
  | 2 => some .l2
  | 3 => some .l3
  | 4 => some .l4
  | _ => none

/-- A job lane: 1..4, or 0 for ANY; `none` for a value out of range. -/
def jobLaneOf (n : Nat) : Option (Option LaneNo) :=
  match n with
  | 0 => some none
  | n => (laneOf n).map some

def jobLaneCode : Option LaneNo → Nat
  | none => 0
  | some l => laneCode l

def StackNo.code : StackNo → Nat
  | .k1 => 1
  | .k2 => 2
  | .k3 => 3
  | .k4 => 4
  | .k5 => 5
  | .k6 => 6
  | .k7 => 7
  | .k8 => 8

def stackOf (n : Nat) : Option StackNo :=
  match n with
  | 1 => some .k1
  | 2 => some .k2
  | 3 => some .k3
  | 4 => some .k4
  | 5 => some .k5
  | 6 => some .k6
  | 7 => some .k7
  | 8 => some .k8
  | _ => none

def rotationOf (n : Nat) : Option Rotation :=
  match n with
  | 0 => some .r0
  | 90 => some .r90
  | _ => none

def boolOf (n : Nat) : Option Bool :=
  match n with
  | 0 => some false
  | 1 => some true
  | _ => none

def signOf (n : Nat) : Option Sign :=
  match n with
  | 0x01 => some .plus
  | 0xFF => some .minus
  | _ => none

def Sign.code : Sign → Nat
  | .plus => 0x01
  | .minus => 0xFF

def timerModeOf (n : Nat) : Option TimerMode :=
  match n with
  | 0 => some .off
  | 1 => some .monitor
  | 2 => some .pace
  | _ => none

def TimerMode.code : TimerMode → Nat
  | .off => 0
  | .monitor => 1
  | .pace => 2

def roundingOf (n : Nat) : Option Rounding :=
  match n with
  | 0 => some .towardDatum
  | 1 => some .away
  | 2 => some .even
  | _ => none

def Rounding.code : Rounding → Nat
  | .towardDatum => 0
  | .away => 1
  | .even => 2

def partitionOf (n : Nat) : Option Partition :=
  match n with
  | 0 => some .p0
  | 1 => some .p1
  | 2 => some .p2
  | 3 => some .p3
  | _ => none

def Partition.code : Partition → Nat
  | .p0 => 0
  | .p1 => 1
  | .p2 => 2
  | .p3 => 3

def Gantry.code : Gantry → Nat
  | .unhomed => 0
  | .homing _ => 1
  | .idle => 2
  | .cycling => 3
  | .halted _ => 4
  | .aborting => 5
  | .fault => 6

def Remembered.code : Remembered → Nat
  | .homing => 1
  | .idle => 2
  | .cycling => 3
  | .aborting => 5

def FaultState.code : FaultState → Nat
  | .homing => 1
  | .cycling => 3
  | .halted => 4
  | .aborting => 5

/-- An absent gantry state is sent as 0xFF (R165). -/
def rememberedCode : Option Remembered → Nat
  | none => 0xFF
  | some r => r.code

def Phase.code : Phase → Nat
  | .toStack => 1
  | .search => 2
  | .grip => 3
  | .lift => 4
  | .toLane => 5
  | .lower => 6
  | .release => 7
  | .rise => 8
  | .retreat => 9
  | .toReject => 10
  | .rejectLower => 11
  | .rejectRelease => 12
  | .rejectRise => 13

def phaseCode : Option Phase → Nat
  | none => 0
  | some p => p.code

def LaneState.code : LaneState → Nat
  | .parked => 0
  | .idle => 1
  | .filling _ => 2
  | .handed _ => 3

def JobState.code : JobState → Nat
  | .queued => 0
  | .active => 1
  | .complete => 2
  | .cancelled => 3
  | .failed => 4

def reasonCode : Option Reason → Nat
  | none => 0
  | some .reach => 1
  | some .fit => 2

def FaultKind.code : FaultKind → Nat
  | .driveX => 1
  | .driveY => 2
  | .driveZ => 3
  | .driveC => 4
  | .limit => 5
  | .drop => 6

def faultKindCode : Option FaultKind → Nat
  | none => 0
  | some k => k.code

def LinkError.code : LinkError → Nat
  | .none => 0
  | .parity => 1
  | .gap => 2
  | .length => 3
  | .check => 4
  | .break => 5
  | .overrun => 6

def Decoder.code : Decoder → Nat
  | .ready => 0
  | .starting => 1
  | .partitioning _ _ => 2
  | .restarting _ => 3

def HomingStep.code : HomingStep → Nat
  | .one => 1
  | .two => 2
  | .three => 3

/-! ## Results (R170) -/

inductive Result where
  | ok | okAdjusted | deferred | busy | unknownKind | badLength | outOfRange | typeUndefined | typeInUse | gripShort
  | tagInUse | tagUnknown | listFull | jobState | stackType | stackBusy | stackHeight | stackUnset | laneUnconfigured
  | laneState | gantryState | safetyActive | panelHeld | storeInUse | nothingToAbort | travelConflict
  deriving DecidableEq, Repr

def Result.code : Result → Byte
  | .ok => 0x00
  | .okAdjusted => 0x01
  | .deferred => 0x02
  | .busy => 0x10
  | .unknownKind => 0x11
  | .badLength => 0x12
  | .outOfRange => 0x13
  | .typeUndefined => 0x14
  | .typeInUse => 0x15
  | .gripShort => 0x16
  | .tagInUse => 0x17
  | .tagUnknown => 0x18
  | .listFull => 0x19
  | .jobState => 0x1A
  | .stackType => 0x1B
  | .stackBusy => 0x1C
  | .stackHeight => 0x1D
  | .stackUnset => 0x1E
  | .laneUnconfigured => 0x1F
  | .laneState => 0x20
  | .gantryState => 0x21
  | .safetyActive => 0x22
  | .panelHeld => 0x23
  | .storeInUse => 0x24
  | .nothingToAbort => 0x25
  | .travelConflict => 0x26

/-! ## Request kinds (R165) -/

inductive RequestKind where
  | queryStatus | readFault | setModes | setTravel | readConfig | partitionStore | restart | defineType | dropType
  | setTypeCursor | readTypes | enqueueJob | amendJob | cancelJob | readJob | setListCursor | listJobs | setStack
  | loadStack | unloadStack | readStacks | setLane | parkLane | unparkLane | closeBook | readLane | home | run | hold
  | halt | resume | abort | clearFault | releaseHeld
  deriving DecidableEq, Repr

def RequestKind.code : RequestKind → Byte
  | .queryStatus => 0x01
  | .readFault => 0x02
  | .setModes => 0x03
  | .setTravel => 0x04
  | .readConfig => 0x05
  | .partitionStore => 0x06
  | .restart => 0x07
  | .defineType => 0x08
  | .dropType => 0x09
  | .setTypeCursor => 0x0A
  | .readTypes => 0x0B
  | .enqueueJob => 0x0C
  | .amendJob => 0x0D
  | .cancelJob => 0x0E
  | .readJob => 0x0F
  | .setListCursor => 0x10
  | .listJobs => 0x11
  | .setStack => 0x12
  | .loadStack => 0x13
  | .unloadStack => 0x14
  | .readStacks => 0x15
  | .setLane => 0x16
  | .parkLane => 0x17
  | .unparkLane => 0x18
  | .closeBook => 0x19
  | .readLane => 0x1A
  | .home => 0x1B
  | .run => 0x1C
  | .hold => 0x1D
  | .halt => 0x1E
  | .resume => 0x1F
  | .abort => 0x20
  | .clearFault => 0x21
  | .releaseHeld => 0x22

def kindOf (code : Byte) : Option RequestKind :=
  match code.toNat with
  | 0x01 => some .queryStatus
  | 0x02 => some .readFault
  | 0x03 => some .setModes
  | 0x04 => some .setTravel
  | 0x05 => some .readConfig
  | 0x06 => some .partitionStore
  | 0x07 => some .restart
  | 0x08 => some .defineType
  | 0x09 => some .dropType
  | 0x0A => some .setTypeCursor
  | 0x0B => some .readTypes
  | 0x0C => some .enqueueJob
  | 0x0D => some .amendJob
  | 0x0E => some .cancelJob
  | 0x0F => some .readJob
  | 0x10 => some .setListCursor
  | 0x11 => some .listJobs
  | 0x12 => some .setStack
  | 0x13 => some .loadStack
  | 0x14 => some .unloadStack
  | 0x15 => some .readStacks
  | 0x16 => some .setLane
  | 0x17 => some .parkLane
  | 0x18 => some .unparkLane
  | 0x19 => some .closeBook
  | 0x1A => some .readLane
  | 0x1B => some .home
  | 0x1C => some .run
  | 0x1D => some .hold
  | 0x1E => some .halt
  | 0x1F => some .resume
  | 0x20 => some .abort
  | 0x21 => some .clearFault
  | 0x22 => some .releaseHeld
  | _ => none

/-- The payload length of a kind (R165). -/
def RequestKind.payloadLength : RequestKind → Nat
  | .queryStatus => 0
  | .readFault => 0
  | .setModes => 21
  | .setTravel => 20
  | .readConfig => 0
  | .partitionStore => 1
  | .restart => 0
  | .defineType => 8
  | .dropType => 1
  | .setTypeCursor => 1
  | .readTypes => 0
  | .enqueueJob => 11
  | .amendJob => 6
  | .cancelJob => 2
  | .readJob => 2
  | .setListCursor => 2
  | .listJobs => 0
  | .setStack => 7
  | .loadStack => 4
  | .unloadStack => 1
  | .readStacks => 0
  | .setLane => 20
  | .parkLane => 1
  | .unparkLane => 1
  | .closeBook => 1
  | .readLane => 1
  | .home => 0
  | .run => 0
  | .hold => 0
  | .halt => 0
  | .resume => 0
  | .abort => 0
  | .clearFault => 0
  | .releaseHeld => 0

/-! ## Answers -/

/-- What the owning block makes of a taken request (R170): result, reply payload, the state after its effects, whether
it is a re-evaluation event (R100), and whether its reply waits for a clearing (R171). -/
structure Answer where
  result : Result
  payload : List Byte
  state : State
  wake : Bool
  later : Bool
  deriving DecidableEq, Repr

/-- An answer that changes no state and carries no payload. -/
def refuse (r : Result) (s : State) : Answer :=
  { result := r, payload := [], state := s, wake := false, later := false }

/-- An accepted request without a reply payload. -/
def accept (s : State) : Answer :=
  { result := .ok, payload := [], state := s, wake := false, later := false }

/-- An accepted request that is a re-evaluation event (R100). -/
def acceptWake (s : State) : Answer :=
  { result := .ok, payload := [], state := s, wake := true, later := false }

/-- A deferred request. -/
def defer (s : State) : Answer :=
  { result := .deferred, payload := [], state := s, wake := false, later := false }

/-- A read. -/
def reading (payload : List Byte) (s : State) : Answer :=
  { result := .ok, payload := payload, state := s, wake := false, later := false }

/-! ## Clamping (R74, R179) -/

/-- A value moved into a range. -/
def clampTo (lo hi v : Nat) : Nat :=
  if v < lo then lo else if hi < v then hi else v

end Sys2Proof.Machine
end

