-- ==== Sys2Proof/Machine/Flags.lean ====
section
/-! DEFINITION. What is computed from the state: in use, in work, committed, held, open to selection, starved, the driven
outputs and the summary. -/

namespace Sys2Proof.Machine

/-! ## The record and the things it holds -/

/-- The phases before the grip, in which a transfer can still be abandoned (R131). -/
def Phase.preGrip : Phase → Bool
  | .toStack => true
  | .search => true
  | .grip => true
  | .lift => false
  | .toLane => false
  | .lower => false
  | .release => false
  | .rise => false
  | .retreat => false
  | .toReject => false
  | .rejectLower => false
  | .rejectRelease => false
  | .rejectRise => false

/-- The phases that commit a panel: LIFT to RISE and the put-down (R27). -/
def Phase.commits (p : Phase) : Bool :=
  !p.preGrip && p != .retreat

/-- The phases of the carry, in which a held board hangs under the cups (R125, R146, R160). -/
def Phase.carries : Phase → Bool
  | .lift => true
  | .toLane => true
  | .lower => true
  | .toReject => true
  | .rejectLower => true
  | .toStack => false
  | .search => false
  | .grip => false
  | .release => false
  | .rise => false
  | .retreat => false
  | .rejectRelease => false
  | .rejectRise => false

/-- The transfer record of a job entry: its tag and slot are the entry's (R25, R33). -/
def State.transferFor (s : State) (slot tag : Nat) : Option Transfer :=
  s.transfer.filter fun t => t.jobSlot == slot && t.jobTag == tag

/-- A panel of the job is committed (R27). -/
def State.committed (s : State) (slot tag : Nat) : Bool :=
  (s.transferFor slot tag).any fun t => t.phase.commits

/-- A stack is in work (R44). -/
def State.inWork (s : State) (k : StackNo) : Bool :=
  s.transfer.any fun t => t.stack == k && t.phase.preGrip

/-- The book of a lane, present while FILLING or HANDED (R80). -/
def LaneState.book : LaneState → Option Book
  | .parked => none
  | .idle => none
  | .filling b => some b
  | .handed b => some b

/-- A type is in use (R11). -/
def State.typeInUse (s : State) (n : Nat) : Bool :=
  s.store.jobs.entries.any (fun j => j.type == n) ||
    allStacks.any (fun k => (s.stack k).present && (s.stack k).type == n) ||
    allLanes.any (fun l => (s.lane l).state.book.any fun b => b.key.type == n) ||
    s.transfer.any fun t => t.key.type == n

/-- The top of a stack, Zf + count × Tk (R42). -/
def State.stackTop (s : State) (k : StackNo) : Nat :=
  (s.stack k).zf + (s.stack k).count * (s.typeEntry (s.stack k).type).thk

/-- A stack can supply a panel (R49). -/
def StackRec.supplies (r : StackRec) : Bool :=
  r.present && !r.suspect && 1 ≤ r.count

/-- The gantry is CYCLING or ABORTING, halted out of one of them, or in FAULT with a record (R3, check 5). -/
def State.transferHolds (s : State) : Bool :=
  match s.gantry.state with
  | .cycling => true
  | .aborting => true
  | .halted .cycling => true
  | .halted .aborting => true
  | .fault => s.transfer.isSome
  | .halted .homing => false
  | .halted .idle => false
  | .unhomed => false
  | .homing _ => false
  | .idle => false

/-! ## Lines and outputs -/

/-- SAW-READY as the part takes it: high in dry run (R76). -/
def State.sawReady (s : State) (l : LaneNo) : Bool :=
  s.gantry.dryRun || s.inputs.sawReady.get l

/-- BOOK-READY: asserted while HANDED, outside dry run and outside reset (R76, R183). -/
def State.bookReady (s : State) (l : LaneNo) : Bool :=
  match (s.lane l).state with
  | .handed _ => !s.gantry.dryRun && !s.resetHeld
  | .parked => false
  | .idle => false
  | .filling _ => false

/-- The valve outputs as driven: none in dry run, none under reset (R117, R183). -/
def State.valveOutputs (s : State) : ZoneMask :=
  if s.gantry.dryRun || s.resetHeld then 0 else s.valves

/-- The blow-off output as driven (R117, R183). -/
def State.blowOffOutput (s : State) : Bool :=
  !s.gantry.dryRun && !s.resetHeld && s.blowOff

/-! ## Lanes open to selection, starved lanes -/

/-- IDLE or FILLING (R77). -/
def LaneState.serves : LaneState → Bool
  | .idle => true
  | .filling _ => true
  | .parked => false
  | .handed _ => false

/-- A lane is open to selection (R77). -/
def State.laneOpen (s : State) (l : LaneNo) : Bool :=
  (s.lane l).state.serves && !(s.lane l).parkRequest && !(s.lane l).inbound && s.sawReady l

/-- A lane of the idle queue is starved: S above 0 and its idle age at least S (R102). -/
def State.starved (s : State) (e : IdleEntry) : Bool :=
  0 < s.modes.starve && s.modes.starve * 1000 ≤ e.age

/-! ## The phase shown, the summary (R152, R173) -/

/-- The phase the summary shows (R152, R173). -/
def State.shownPhase (s : State) : Option Phase :=
  match s.gantry.state with
  | .cycling => s.transfer.map Transfer.phase
  | .aborting => s.transfer.map Transfer.phase
  | .halted .cycling => s.transfer.map Transfer.phase
  | .halted .aborting => s.transfer.map Transfer.phase
  | .fault => s.transfer.map Transfer.phase
  | .halted .homing => none
  | .halted .idle => none
  | .unhomed => none
  | .homing _ => none
  | .idle => none

/-- The decoder-busy flag: STARTING, PARTITIONING, RESTARTING, or a reply waits (R173). -/
def State.decoderBusy (s : State) : Bool :=
  s.decoder != .ready || s.waiting.isSome

/-- Summary byte of a lane (R164). -/
def State.laneSummary (s : State) (l : LaneNo) : Byte :=
  byteOf ((s.lane l).state.code + 4 * bits [(s.lane l).parkRequest, (s.lane l).stalled, s.sawReady l])

/-- The 10-byte summary (R164, R173). -/
def State.summary (s : State) : List Byte :=
  [byteOf s.gantry.state.code, byteOf (phaseCode s.shownPhase),
    byteOf (bits [s.runMode == .run, s.inputs.safety, s.gantry.dryRun, s.fault.entry.isSome, s.notices.lost,
      s.decoderBusy]),
    s.laneSummary .l1, s.laneSummary .l2, s.laneSummary .l3, s.laneSummary .l4] ++
    le16 s.entryCount ++ [byteOf s.link.lastError.code]

/-! ## Pending notices (R177) -/

/-- A LANE notice is pending (R94). -/
def Lane.noticePending (l : Lane) : Bool :=
  l.noteHanded || l.noteParked || l.noteStalled || l.noteSpurious

/-- The lowest-numbered lane whose notice is pending (R176). -/
def State.laneNoticeDue (s : State) : Option LaneNo :=
  allLanes.find? fun l => (s.lane l).noticePending

/-- The STACK notice is pending (R52). -/
def State.stackNoticePending (s : State) : Bool :=
  allStacks.any fun k => (s.stack k).emptyFlag || (s.stack k).suspectFlag

/-- The GANTRY notice is pending (R152). -/
def State.gantryNoticePending (s : State) : Bool :=
  s.gantry.noteHomed || s.gantry.noteHalted

end Sys2Proof.Machine
end

