-- ==== Sys2Proof/Machine/Placement.lean ====
section
/-! DEFINITION. The Placement Arithmetic Unit (spec/04_placement_arithmetic.md): zones, half dimensions, points, heights,
the limit test, fit, growth and verdicts. -/

namespace Sys2Proof.Machine

/-! ## Zones (R56) -/

/-- |c| of zones 1..8 (4.2). -/
def zoneOffsets : List Nat :=
  [10500, 7500, 4500, 1500, 1500, 4500, 7500, 10500]

/-- The zone test: 2 × (|c| + 1200) ≤ L (R56). -/
def zoneOpen (len c : Nat) : Bool :=
  2 * (c + 1200) ≤ len

/-- The zone mask of a length (R56). -/
def zoneMask (len : Nat) : ZoneMask :=
  byteOf (bits (zoneOffsets.map (zoneOpen len)))

/-- The zone count of a length (R56). -/
def zoneCount (len : Nat) : Nat :=
  (zoneOffsets.filter (zoneOpen len)).length

/-- The least number of open zones of a class (R9). -/
def classMinimum (cls : Nat) : Nat :=
  2 * cls

/-! ## Halving and footprint -/

/-- The half-dimension h(v) (R57). -/
def halve (r : Rounding) (v : Nat) : Nat :=
  if v % 2 = 0 then v / 2
  else
    match r with
    | .towardDatum => v / 2
    | .away => v / 2 + 1
    | .even => if v / 2 % 2 = 0 then v / 2 else v / 2 + 1

/-- The footprint along X (R58). -/
def footX (e : TypeEntry) : Rotation → Nat
  | .r0 => e.len
  | .r90 => e.wid

/-- The footprint along Y (R58). -/
def footY (e : TypeEntry) : Rotation → Nat
  | .r0 => e.wid
  | .r90 => e.len

/-- A direction sign applied to a magnitude (R60). -/
def Sign.apply (g : Sign) (n : Nat) : Int :=
  match g with
  | .plus => n
  | .minus => -n

/-! ## The limit test (R64) -/

/-- A coordinate after the limit test, with its CLAMPED mark. -/
structure Coord where
  pos : Nat
  clamped : Bool
  deriving DecidableEq, Repr

/-- The limit test; `none` is REACH (R64). -/
def limitTest (v : Int) (lo hi tol : Nat) : Option Coord :=
  if (hi : Int) < v then
    if v - hi ≤ tol then some { pos := hi, clamped := true } else none
  else if v < lo then
    if lo - v ≤ tol then some { pos := lo, clamped := true } else none
  else some { pos := v.toNat, clamped := false }

/-- A point after the limit tests of its two coordinates. -/
structure Point where
  x : Coord
  y : Coord
  deriving DecidableEq, Repr

def State.limitX (s : State) (v : Int) : Option Coord :=
  limitTest v s.travel.xMin s.travel.xMax s.modes.clampTol

def State.limitY (s : State) (v : Int) : Option Coord :=
  limitTest v s.travel.yMin s.travel.yMax s.modes.clampTol

def State.limitPoint (s : State) (x y : Int) : Option Point :=
  match s.limitX x, s.limitY y with
  | some cx, some cy => some { x := cx, y := cy }
  | _, _ => none

/-- The pick point (R59). -/
def State.pickPoint (s : State) (k : StackNo) (e : TypeEntry) : Option Point :=
  s.limitPoint ((s.stack k).xs + halve s.modes.rounding e.len) ((s.stack k).ys + halve s.modes.rounding e.wid)

/-- The place point of a panel on a lane (R60). -/
def State.placePoint (s : State) (l : LaneNo) (e : TypeEntry) (r : Rotation) : Option Point :=
  let cfg := (s.lane l).cfg
  s.limitPoint (cfg.xf + cfg.sx.apply (halve s.modes.rounding (footX e r)))
    (cfg.yf + cfg.sy.apply (halve s.modes.rounding (footY e r)))

/-! ## Heights -/

/-- The expected contact height Ze = Zf + count × Tk (R61). -/
def State.contactHeight (s : State) (k : StackNo) (e : TypeEntry) : Nat :=
  (s.stack k).zf + (s.stack k).count * e.thk

/-- The book height of a lane, 0 on an empty table (R63). -/
def LaneState.height : LaneState → Nat
  | .parked => 0
  | .idle => 0
  | .filling b => b.height
  | .handed b => b.height

/-- The search window of a height, with the contact tolerance now in force (R61). -/
def State.searchWindow (s : State) (ze : Nat) : SearchWindow :=
  { start := max (ze + 200) s.travel.zMin, limit := max (ze - s.modes.contactTol) s.travel.zMin,
    tolerance := s.modes.contactTol }

/-- |Zc − Ze| ≤ t (R62). -/
def contactAccepted (zc ze t : Nat) : Bool :=
  zc ≤ ze + t && ze ≤ zc + t

/-! ## Fit, reach and growth -/

/-- A lane fits a panel (R67). -/
def LaneConfig.fits (cfg : LaneConfig) (e : TypeEntry) (r : Rotation) : Bool :=
  footX e r ≤ cfg.lt && footY e r ≤ cfg.wt && e.thk ≤ cfg.hmax

/-- The place point of a lane that reaches the panel: the limit tests pass and Zt is not below the Z minimum
(R64, R66, R70 test 3). -/
def State.reach (s : State) (l : LaneNo) (e : TypeEntry) (r : Rotation) : Option Point :=
  if (s.lane l).cfg.zt < s.travel.zMin then none else s.placePoint l e r

/-- The book has room for one more board of its type in entries and height (R68, R83). -/
def LaneConfig.room (cfg : LaneConfig) (b : Book) (thk : Nat) : Bool :=
  b.tags.length < cfg.countLimit && b.height + thk ≤ cfg.hmax

/-- The key of a job (R68). -/
def Job.key (j : Job) : Key :=
  { type := j.type, pattern := j.pattern, rotation := j.rotation }

/-- Test 4 of R70: the lane is IDLE, or FILLING and can add the job (R68). -/
def State.laneTakes (s : State) (l : LaneNo) (j : Job) : Bool :=
  match (s.lane l).state with
  | .idle => true
  | .filling b => j.key == b.key && (s.lane l).cfg.room b (s.typeEntry j.type).thk
  | .parked => false
  | .handed _ => false

/-! ## Verdicts (R70, R71) -/

/-- The values of a match (R71). -/
structure Placing where
  mask : ZoneMask
  pick : Point
  place : Point
  ze : Nat
  placeZ : Nat
  deriving DecidableEq, Repr

inductive Verdict where
  | found (p : Placing)
  | skip
  | fail (r : Reason)
  deriving DecidableEq, Repr

/-- Some configured lane both fits and reaches the job's panel (R70). -/
def State.someLaneServes (s : State) (j : Job) : Bool :=
  allLanes.any fun l =>
    (s.lane l).configured && (s.lane l).cfg.fits (s.typeEntry j.type) j.rotation &&
      (s.reach l (s.typeEntry j.type) j.rotation).isSome

/-- What becomes of a job that the lane weighed cannot fit or reach: a fixed lane fails it with the reason of the test,
ANY waits while some configured lane serves it and else fails with FIT (R70). -/
def State.turnedAway (s : State) (j : Job) (r : Reason) : Verdict :=
  match j.lane with
  | some _ => .fail r
  | none => if s.someLaneServes j then .skip else .fail .fit

/-- The verdict on a job and a lane (R70). -/
def State.verdict (s : State) (j : Job) (l : LaneNo) : Verdict :=
  let e := s.typeEntry j.type
  match s.pickPoint j.stack e with
  | none => .fail .reach
  | some pick =>
    if !(s.lane l).cfg.fits e j.rotation then s.turnedAway j .fit
    else
      match s.reach l e j.rotation with
      | none => s.turnedAway j .reach
      | some place =>
        if s.laneTakes l j then
          .found { mask := e.mask, pick := pick, place := place, ze := s.contactHeight j.stack e,
                   placeZ := (s.lane l).cfg.zt + (s.lane l).state.height + e.thk }
        else .skip

end Sys2Proof.Machine
end

