-- ==== Sys2Proof/Machine/Lanes.lean ====
section
/-! DEFINITION. What happens at a lane (spec/05_saw_lanes_and_books.md): service lists, placement, closing, close test,
take-over. -/

namespace Sys2Proof.Machine

/-- Milliseconds of a time in seconds. -/
def msOf (seconds : Nat) : Nat :=
  seconds * 1000

/-! ## Service lists (R79) -/

/-- A lane joins the tail of the idle queue with a new idle-since time (R79). -/
def State.joinIdle (s : State) (l : LaneNo) : State :=
  { s with idleQueue := s.idleQueue ++ [{ lane := l, age := 0 }] }

def State.leaveIdle (s : State) (l : LaneNo) : State :=
  { s with idleQueue := s.idleQueue.filter fun e => e.lane != l }

def State.joinFilling (s : State) (l : LaneNo) : State :=
  { s with fillingOrder := s.fillingOrder ++ [l] }

def State.leaveFilling (s : State) (l : LaneNo) : State :=
  { s with fillingOrder := s.fillingOrder.filter fun m => m != l }

/-! ## Closing a book (R84, R87, R94) -/

/-- The lane timer's duration at entry into HANDED, `none` when it does not run (R87). -/
def LaneConfig.timerStart (cfg : LaneConfig) (dry : Bool) : Option Nat :=
  match cfg.timerMode with
  | .off => if dry then some (msOf 1) else none
  | .monitor => some (msOf cfg.timerTime)
  | .pace => some (msOf cfg.timerTime)

/-- The Lane Unit after its book closes (R84, R94). -/
def Lane.handOver (v : Lane) (b : Book) (dry : Bool) : Lane :=
  { v with state := .handed b, closePending := false, bookTimer := none, laneTimer := v.cfg.timerStart dry,
           noteHanded := true, report := some b }

/-- A book closes (R84); nothing happens on a lane that is not FILLING. -/
def State.closeBook (s : State) (l : LaneNo) : State :=
  match (s.lane l).state with
  | .filling b => (s.setLane l ((s.lane l).handOver b s.gantry.dryRun)).leaveFilling l
  | .parked => s
  | .idle => s
  | .handed _ => s

/-! ## Placement (R81) -/

/-- The board of the transfer is laid on the lane (R81). -/
def State.place (s : State) (t : Transfer) : State :=
  let v := s.lane t.lane
  let thk := (s.typeEntry t.key.type).thk
  match v.state with
  | .idle =>
    ((s.setLane t.lane { v with state := .filling { key := t.key, tags := [t.jobTag], height := thk } }).leaveIdle
      t.lane).joinFilling t.lane
  | .filling b =>
    s.setLane t.lane { v with state := .filling { b with tags := b.tags ++ [t.jobTag], height := b.height + thk } }
  | .parked => s
  | .handed _ => s

/-! ## The close test (R82, R83) -/

/-- A job of the window that can grow the book (R83, third condition). -/
def Job.grows (j : Job) (l : LaneNo) (k : Key) : Bool :=
  j.live && !j.cancelPending && 1 ≤ j.remaining && j.key == k && (j.lane == none || j.lane == some l)

/-- The book can grow (R83). -/
def State.canGrow (s : State) (l : LaneNo) (b : Book) : Bool :=
  (s.lane l).cfg.room b (s.typeEntry b.key.type).thk && s.window.any fun e => e.job.grows l b.key

/-- Park a lane that carries a park-request: PARKED, park-request clear, PARKED flag set (R82 step 1, R88). -/
def Lane.parkNow (v : Lane) : Lane :=
  { v with state := .parked, parkRequest := false, noteParked := true }

/-- Step 1 of the close test. -/
def State.closeTestPark (s : State) (l : LaneNo) : State :=
  if (s.lane l).state = .idle ∧ (s.lane l).parkRequest then s.setLane l (s.lane l).parkNow else s

/-- Steps 2 and 3 of the close test. -/
def State.closeTestBook (s : State) (l : LaneNo) : State :=
  match (s.lane l).state with
  | .filling b =>
    if (s.lane l).closePending || (s.lane l).parkRequest || !s.canGrow l b then s.closeBook l else s
  | .parked => s
  | .idle => s
  | .handed _ => s

/-- Step 4 of the close test. -/
def State.closeTestTimer (s : State) (l : LaneNo) : State :=
  match (s.lane l).state with
  | .filling _ =>
    if 0 < (s.lane l).cfg.bookWait then
      s.setLane l { s.lane l with bookTimer := some (msOf (s.lane l).cfg.bookWait) }
    else s
  | .parked => s
  | .idle => s
  | .handed _ => s

/-- Step 5 of the close test. -/
def State.closeTestEnd (s : State) (l : LaneNo) : State :=
  s.setLane l { s.lane l with inbound := false, closePending := false }

/-- The close test of a lane (R82). -/
def State.closeTest (s : State) (l : LaneNo) : State :=
  (((s.closeTestPark l).closeTestBook l).closeTestTimer l).closeTestEnd l

/-! ## Take-over (R88) -/

/-- The take-over of a HANDED lane (R88). The flag tells whether the lane joined the idle queue, which is a
re-evaluation event. -/
def State.takeOver (s : State) (l : LaneNo) : State × Bool :=
  let v := { s.lane l with laneTimer := none, stalled := false }
  if v.parkRequest then (s.setLane l v.parkNow, false)
  else ((s.setLane l { v with state := .idle }).joinIdle l, true)

/-- A MONITOR expiry outside dry run (R89). -/
def Lane.stall (v : Lane) : Lane :=
  { v with laneTimer := none, stalled := true, noteStalled := true }

/-- A lane at an accepted RESTART: PARKED, configuration kept, everything else cleared (R97). -/
def Lane.restarted (v : Lane) : Lane :=
  { Lane.powerOn with configured := v.configured, cfg := v.cfg }

end Sys2Proof.Machine
end

