-- ==== Sys2Proof/Machine/Faults.lean ====
section
/-! DEFINITION. The Fault Record and fault events (spec/09_faults.md), and the halt (spec/08, 8.4). -/

namespace Sys2Proof.Machine

/-- The state a first fault can find (R154); no fault is taken in UNHOMED or IDLE (R153). -/
def Gantry.faultState : Gantry → Option FaultState
  | .homing _ => some .homing
  | .cycling => some .cycling
  | .aborting => some .aborting
  | .halted _ => some .halted
  | .unhomed => none
  | .idle => none
  | .fault => none

/-- The remembered state, while HALTED (R136). -/
def Gantry.remembered : Gantry → Option Remembered
  | .halted r => some r
  | .unhomed => none
  | .homing _ => none
  | .idle => none
  | .cycling => none
  | .aborting => none
  | .fault => none

/-- Stop commands to all four axes; a move in progress does not complete (R142, R155). -/
def State.stopAll (s : State) : State :=
  (s.stop allAxes).setMove .still

/-- The entry a first fault creates, from the state just before its effects (R154). -/
def State.faultEntry (s : State) (k : FaultKind) (f : FaultState) : FaultEntry :=
  { kind := k, found := f, remembered := s.gantry.state.remembered, phase := s.transfer.map Transfer.phase,
    jobTag := s.transfer.map Transfer.jobTag, held := s.holding, lastX := s.gantry.lastX, lastY := s.gantry.lastY,
    lastZ := s.gantry.lastZ, further := 0 }

/-- The first fault (R154, R155, R158). -/
def State.firstFault (s : State) (k : FaultKind) (f : FaultState) : State :=
  let e := s.faultEntry k f
  { s.stopAll.setGantry .fault with
    gripCounter := .stopped
    releaseCounter := .stopped
    blowOff := false
    valves := if s.holding then s.valves else 0
    fault := { entry := some e, note := true, reportKind := some k, reportCount := 0 } }

/-- The further-fault count saturates at 15 (R157). -/
def bump15 (n : Nat) : Nat :=
  min 15 (n + 1)

/-- A further fault (R157, R158). -/
def State.furtherFault (s : State) (e : FaultEntry) : State :=
  { s.stop allAxes with
    fault := { s.fault with entry := some { e with further := bump15 e.further }, note := true,
                            reportCount := bump15 e.further } }

/-- A board counted lost, its in-flight cleared (R32). -/
def Job.lose (j : Job) : Job :=
  { j with lost := bump999 j.lost, inFlight := false }

/-- The board leaves the head uncounted by the table: the valves close, held clears, the job's lost count rises and
in-flight clears (R156, R160). -/
def State.boardLost (s : State) : State :=
  { (s.onRecordJob Job.lose).onTransfer fun t => { t with held := false } with valves := 0 }

/-- A fault event (R154, R155, R157); a DROP adds the effects of R156. -/
def State.takeFault (s : State) (k : FaultKind) : State :=
  let r :=
    match s.fault.entry, s.gantry.state.faultState with
    | none, some f => s.firstFault k f
    | none, none => s
    | some e, _ => s.furtherFault e
  if k = .drop then r.boardLost else r

/-- The gantry states in which a drive-fault or limit input is a fault event (R153). -/
def Gantry.watchesDrives : Gantry → Bool
  | .homing _ => true
  | .cycling => true
  | .aborting => true
  | .halted _ => true
  | .fault => true
  | .unhomed => false
  | .idle => false

/-- The gantry states in which HOLD-LOST is watched while held is set (R126, R142, R146, R157). -/
def Gantry.watchesHold : Gantry → Bool
  | .cycling => true
  | .aborting => true
  | .halted _ => true
  | .fault => true
  | .unhomed => false
  | .homing _ => false
  | .idle => false

/-- A drive-fault or limit input becomes asserted (R153): ignored in dry run, no event in UNHOMED or IDLE. -/
def State.inputFault (s : State) (k : FaultKind) : State :=
  if !s.gantry.dryRun && s.gantry.state.watchesDrives then s.takeFault k else s

/-- HOLD-LOST becomes asserted, or is found asserted at entry into LIFT (R126, R153). -/
def State.holdLost (s : State) : State :=
  if !s.gantry.dryRun && s.gantry.state.watchesHold && s.holding then s.takeFault .drop else s

/-- The fault kind of an axis. -/
def driveFaultKind : Axis → FaultKind
  | .x => .driveX
  | .y => .driveY
  | .z => .driveZ
  | .c => .driveC

/-- The inputs that read asserted, in the order of R153: DRIVE_X, DRIVE_Y, DRIVE_Z, DRIVE_C, LIMIT. -/
def Inputs.assertedFaults (i : Inputs) : List FaultKind :=
  (i.driveFault.toList.map driveFaultKind) ++ (if i.limit then [.limit] else [])

/-- The faults found at an entry into HOMING by HOME or into CYCLING by a selection (R153). -/
def State.faultsFound (s : State) : State :=
  s.inputs.assertedFaults.foldl State.inputFault s

/-! ## The halt (R140, R141, R142) -/

/-- What a halt remembers; UNHOMED, HALTED and FAULT do not halt (R140, R141). -/
def Gantry.haltMemory : Gantry → Option Remembered
  | .homing _ => some .homing
  | .idle => some .idle
  | .cycling => some .cycling
  | .aborting => some .aborting
  | .unhomed => none
  | .halted _ => none
  | .fault => none

/-- Become HALTED with a remembered state and set the HALTED flag (R142, R150). -/
def State.becomeHalted (s : State) (r : Remembered) : State :=
  { s with gantry := { s.gantry with state := .halted r, noteHalted := true } }

/-- HALT and the safety line (R142). -/
def State.halt (s : State) : State :=
  match s.gantry.state.haltMemory with
  | none => s
  | some r =>
    { s.stopAll.becomeHalted r with gripCounter := s.gripCounter.pause, releaseCounter := s.releaseCounter.pause }

end Sys2Proof.Machine
end

