-- ==== Sys2Proof/Machine/Transfer.lean ====
section
/-! DEFINITION. The phases of a transfer (spec/07_the_pick_and_place_transfer.md) and of the reject put-down (spec/08, 8.6). -/

namespace Sys2Proof.Machine

/-! ## Giving up -/

/-- The X, Y and C moves still in progress (R130, R146). -/
def State.sideMoves (s : State) : List Axis :=
  s.axesMoving.filter fun a => a != .z

/-- Entry into RETREAT (R130). -/
def State.enterRetreat (s : State) : State :=
  (({ s.stop s.sideMoves with valves := 0, gripCounter := .stopped } : State).setPhase .retreat).issue
    [goTo .z s.travel.ztravel]

/-- A stack becomes suspect, with its notice flag (R51). -/
def State.markSuspect (s : State) (k : StackNo) : State :=
  s.setStack k { s.stack k with suspect := true, suspectFlag := true }

/-- A transfer abandoned before its grip (R131) when CYCLING; when HALTED only the remembered phase changes, and the
valves close (R142); in FAULT the record is left to CLEAR FAULT (R28). -/
def State.abandon (s : State) : State :=
  match s.gantry.state with
  | .cycling => s.enterRetreat
  | .halted .cycling => { s.setPhase .retreat with valves := 0, gripCounter := .stopped }
  | .halted .homing => s
  | .halted .idle => s
  | .halted .aborting => s
  | .unhomed => s
  | .homing _ => s
  | .idle => s
  | .aborting => s
  | .fault => s

/-! ## Over the stack -/

/-- Entry into TO_STACK: X, Y and C are issued, Z is not (R119). -/
def State.issueToStack (s : State) (t : Transfer) : State :=
  s.issue [goTo .x t.pickX, goTo .y t.pickY, goTo .c 0]

/-- Entry into GRIP (R123). -/
def State.enterGrip (s : State) (t : Transfer) : State :=
  ({ (s.setPhase .grip).onTransfer fun t => { t with attempts := 1 } with valves := t.mask } : State).startGrip

/-- The tolerance stored with the window (R121). -/
def State.toleranceOf (s : State) (t : Transfer) : Nat :=
  match t.window with
  | some w => w.tolerance
  | none => s.modes.contactTol

/-- The contact event of SEARCH: Zc is stored, Z is stopped, and the contact is judged (R62, R120, R121, R122). -/
def State.contactEvent (s : State) (zc : Nat) : State :=
  match s.transfer with
  | none => s
  | some t =>
    let r := (s.onTransfer fun t => { t with zc := some zc }).stop [.z]
    if contactAccepted zc t.ze (s.toleranceOf t) then r.enterGrip t else (r.markSuspect t.stack).enterRetreat

/-- The contact sensor is read by SEARCH only, and in dry run not at all (R120, R151). -/
def State.searching (s : State) : Bool :=
  s.gantry.state == .cycling && !s.gantry.dryRun && s.transfer.any fun t => t.phase == .search

/-- The window is derived and the approach descent issued; a contact found asserted then is the contact event, at the
position `z` the Z drive reports at that moment (R120, R137, R143). -/
def State.issueSearch (s : State) (z : Nat) : State :=
  match s.transfer with
  | none => s
  | some t =>
    let w := s.searchWindow t.ze
    let r := (s.onTransfer fun t => { t with window := some w, leg := .first }).issue [goTo .z w.start]
    if r.searching && r.inputs.contact then r.contactEvent z else r

/-- Entry into SEARCH, with the Z drive's report of the command that completes TO_STACK (R120). -/
def State.enterSearch (s : State) : State :=
  (s.setPhase .search).issueSearch s.inputs.zReport

/-- The search descent, after the approach descent ends without a contact (R120). -/
def State.issueDescent (s : State) (t : Transfer) : State :=
  (s.onTransfer fun t => { t with leg := .second }).issue
    [searchTo (match t.window with | some w => w.limit | none => (s.searchWindow t.ze).limit)]

/-- The modelled head stands at a height: GRIP is entered with the head at Zc, where the descent it had been issued was
stopped (R121, R123; log 23). -/
def State.headAt (s : State) (z : Nat) : State :=
  { s with gantry := { s.gantry with head := s.gantry.head.map fun h => { h with z := z } } }

/-- The end of the search descent: in dry run a contact at exactly Ze; else a contact if the sensor is asserted, and no
contact otherwise, which is a mismatch (R120, R122). -/
def State.endDescent (s : State) (t : Transfer) : State :=
  if s.gantry.dryRun then (s.headAt t.ze).contactEvent t.ze
  else if s.inputs.contact then s.contactEvent s.inputs.zReport
  else (s.markSuspect t.stack).enterRetreat

/-! ## The grip -/

/-- The stack after a grip: one board less, EMPTY at 0 (R50). -/
def StackRec.gripped (r : StackRec) : StackRec :=
  { r with count := r.count - 1, emptyFlag := r.emptyFlag || r.count - 1 == 0 }

/-- The job after a grip: in-flight, and ACTIVE if it was QUEUED (R31). -/
def Job.gripped (j : Job) : Job :=
  { j with inFlight := true, state := if j.state = .queued then .active else j.state }

/-- Entry into LIFT (R125); HOLD-LOST found asserted is a DROP (R126), taken after the target of LIFT is issued
(DEDUCED, log 24). -/
def State.enterLift (s : State) : State :=
  let r := (s.setPhase .lift).issue [goTo .z s.travel.ztravel]
  if r.inputs.holdLost then r.holdLost else r

/-- Grip success (R124). -/
def State.gripSuccess (s : State) (t : Transfer) : State :=
  let r := (s.setStack t.stack (s.stack t.stack).gripped).onRecordJob Job.gripped
  ({ r.onTransfer fun t => { t with held := true } with gripCounter := .stopped } : State).enterLift

/-- The expiry of the grip settle counter (R124); in dry run GRIP-LEVEL reads asserted (R151). -/
def State.gripExpiry (s : State) (t : Transfer) (gripLevel : Bool) : State :=
  if gripLevel || s.gantry.dryRun then s.gripSuccess t
  else if t.attempts < 2 then (s.onTransfer fun t => { t with attempts := 2 }).startGrip
  else ({ s.markSuspect t.stack with valves := 0 } : State).enterRetreat

/-! ## The carry and the release -/

/-- Entry into TO_LANE (R125). -/
def State.issueToLane (s : State) (t : Transfer) : State :=
  s.issue [goTo .x t.placeX, goTo .y t.placeY, goTo .c t.key.rotation.degrees]

/-- The board is let go: valves closed, held clear (R127, R147). -/
def State.letGo (s : State) : State :=
  { s.onTransfer fun t => { t with held := false } with valves := 0 }

/-- Entry into RELEASE (R127). -/
def State.enterRelease (s : State) : State :=
  ({ (s.setPhase .release).letGo with blowOff := true } : State).startRelease

/-- Some CLAMPED flag of the record is set (R65). -/
def Transfer.clampedAny (t : Transfer) : Bool :=
  t.clampPickX || t.clampPickY || t.clampPlaceX || t.clampPlaceY

/-- The job after its board is counted on the lane (R31). -/
def Job.counted (j : Job) (clamped : Bool) : Job :=
  { j with placed := j.placed + 1, inFlight := false, clamped := if clamped then bump999 j.clamped else j.clamped }

/-- The board is counted: placed rises, in-flight clears, and a job that has its count becomes COMPLETE (R31). -/
def State.countPlaced (s : State) (t : Transfer) : State :=
  match s.recordJob with
  | none => s
  | some j =>
    let r := s.modifyJob t.jobSlot fun j => j.counted t.clampedAny
    if j.live && j.placed + 1 == j.count then r.finishJob t.jobSlot .complete none else r

/-- Entry into RISE: Z Ztravel and C 0 (R128). -/
def State.issueRise (s : State) : State :=
  s.issue [goTo .z s.travel.ztravel, goTo .c 0]

/-- The expiry of the release settle counter in RELEASE (R128). -/
def State.releaseExpiry (s : State) (t : Transfer) : State :=
  let r := ({ s with blowOff := false, releaseCounter := .stopped } : State)
  (((r.countPlaced t).place t).setPhase .rise).issueRise

/-! ## The reject put-down (8.6) -/

/-- Entry into TO_REJECT: its rise step (R146). -/
def State.issueRejectRise (s : State) : State :=
  ((s.stop s.sideMoves).onTransfer fun t => { t with leg := .first }).issue [goTo .z s.travel.ztravel]

/-- The gantry enters ABORTING with the board held: reject Z is computed (R69) and TO_REJECT begins (R146). -/
def State.enterAborting (s : State) (t : Transfer) : State :=
  let z := s.travel.zr + (s.typeEntry t.key.type).thk
  (((s.setGantry .aborting).onTransfer fun t => { t with rejectZ := some z }).setPhase .toReject).issueRejectRise

/-- The traverse step of TO_REJECT (R146). -/
def State.issueTraverse (s : State) : State :=
  (s.onTransfer fun t => { t with leg := .second }).issue
    [goTo .x s.travel.xr, goTo .y s.travel.yr, goTo .c 0]

/-- REJECT_LOWER's target (R146). -/
def State.issueRejectLower (s : State) (t : Transfer) : State :=
  s.issue [goTo .z (match t.rejectZ with | some z => z | none => s.travel.zr + (s.typeEntry t.key.type).thk)]

/-- Entry into REJECT_RELEASE; the blow-off is not used (R147). -/
def State.enterRejectRelease (s : State) : State :=
  (s.setPhase .rejectRelease).letGo.startRelease

/-- The job after its board is set down at the reject station (R32, R147). -/
def Job.reject (j : Job) : Job :=
  { j with rejected := bump999 j.rejected, inFlight := false }

/-- The expiry of the release settle counter in REJECT_RELEASE (R147). -/
def State.rejectExpiry (s : State) : State :=
  ((({ s with releaseCounter := .stopped } : State).onRecordJob Job.reject).setPhase .rejectRise).issue
    [goTo .z s.travel.ztravel]

/-! ## The end of a transfer -/

/-- A record job with cancel-pending set becomes CANCELLED (R30). -/
def State.resolveCancel (s : State) (t : Transfer) : State :=
  match s.recordJob with
  | none => s
  | some j => if j.cancelPending then s.finishJob t.jobSlot .cancelled none else s

/-- The record's end: cancel-pending is resolved, the close test runs, the record is removed (R129, R130, R147, R161). -/
def State.closeRecord (s : State) (t : Transfer) : State :=
  { (s.resolveCancel t).closeTest t.lane with transfer := none }

/-- RISE, RETREAT or REJECT_RISE completes: the record ends and the gantry becomes IDLE (R129, R130, R147). -/
def State.endTransfer (s : State) (t : Transfer) : State :=
  (s.closeRecord t).setGantry .idle

end Sys2Proof.Machine
end

