-- ==== Sys2Proof/Machine/Select.lean ====
section
/-! DEFINITION. The Dispatcher (spec/06_dispatch.md): the selection attempt, its scan and the selection. -/

namespace Sys2Proof.Machine

/-- A job is eligible (R103). -/
def State.eligible (s : State) (j : Job) : Bool :=
  j.live && !j.cancelPending && 1 ≤ j.remaining && (s.stack j.stack).supplies && (s.stack j.stack).type == j.type

/-- The job's lane is this lane or ANY (R106). -/
def Job.accepts (j : Job) (l : LaneNo) : Bool :=
  j.lane == none || j.lane == some l

/-- The lanes considered, in order: starved lanes, filling lanes, idle lanes, each open to selection (R104). -/
def State.laneOrder (s : State) : List LaneNo :=
  (((s.idleQueue.filter s.starved).map IdleEntry.lane) ++ s.fillingOrder ++
    ((s.idleQueue.filter fun e => !s.starved e).map IdleEntry.lane)).filter s.laneOpen

/-- The slots of the window in scan order: urgent entries first, each pass in window order (R105). -/
def State.scanOrder (s : State) : List Nat :=
  ((s.window.filter fun e => e.job.urgent) ++ s.window.filter fun e => !e.job.urgent).map Located.slot

/-- A match: the lane, the slot, the job and the values of the verdict. -/
structure Hit where
  lane : LaneNo
  slot : Nat
  job : Job
  placing : Placing
  deriving DecidableEq, Repr

/-- An attempt as it goes: the state, whether a job has failed in it, and the match, if found. -/
structure Scan where
  state : State
  failed : Bool
  hit : Option Hit
  deriving DecidableEq, Repr

/-- An entry is tested for a lane and the verdict is applied (R106, R107). -/
def Scan.test (l : LaneNo) (a : Scan) (slot : Nat) : Scan :=
  match a.hit, a.state.jobAt slot with
  | some _, _ => a
  | none, none => a
  | none, some j =>
    if a.state.eligible j && j.accepts l then
      match a.state.verdict j l with
      | .skip => a
      | .found p => { a with hit := some { lane := l, slot := slot, job := j, placing := p } }
      | .fail r => { a with state := a.state.finishJob slot .failed (some r), failed := true }
    else a

/-- One attempt's scan: the lanes in their order, each over the window read at the start (R104, R105). -/
def State.scan (s : State) : Scan :=
  s.laneOrder.foldl (fun a l => s.scanOrder.foldl (Scan.test l) a) { state := s, failed := false, hit := none }

/-- The transfer record of a selection (R109, R114). -/
def Hit.record (h : Hit) : Transfer :=
  { jobTag := h.job.tag, jobSlot := h.slot, stack := h.job.stack, lane := h.lane, key := h.job.key,
    mask := h.placing.mask, pickX := h.placing.pick.x.pos, pickY := h.placing.pick.y.pos,
    placeX := h.placing.place.x.pos, placeY := h.placing.place.y.pos, clampPickX := h.placing.pick.x.clamped,
    clampPickY := h.placing.pick.y.clamped, clampPlaceX := h.placing.place.x.clamped,
    clampPlaceY := h.placing.place.y.clamped, ze := h.placing.ze, placeZ := h.placing.placeZ, window := none,
    phase := .toStack, leg := .first, attempts := 0, zc := none, held := false, rejectZ := none }

/-- The selection: record, inbound, book-wait timer stopped, CYCLING in TO_STACK with its targets issued (R109, R110,
R119), then the fault inputs found asserted at the entry (R153). -/
def State.select (s : State) (h : Hit) : State :=
  let r := { s.setLane h.lane { s.lane h.lane with inbound := true, bookTimer := none } with
             transfer := some h.record }
  ((r.setGantry .cycling).issueToStack h.record).faultsFound

/-- The conditions of an attempt (R99). -/
def State.mayAttempt (s : State) : Bool :=
  s.gantry.state == .idle && s.runMode == .run && !s.inputs.safety && s.fault.entry.isNone

/-- Attempts until one selects or fails no job (R107); `fuel` bounds the repeats. -/
def State.attempts : Nat → State → State
  | 0, s => s
  | fuel + 1, s =>
    let a := s.scan
    match a.hit with
    | some h => a.state.select h
    | none => if a.failed then State.attempts fuel a.state else a.state

/-- A re-evaluation event (R99, R100). A failing attempt finishes a live entry, so no more than entryCount + 1 attempts
are made (R107). -/
def State.reevaluate (s : State) : State :=
  if s.mayAttempt then State.attempts (s.entryCount + 1) s else s

end Sys2Proof.Machine
end

