-- ==== Sys2Proof/Machine/Gantry.lean ====
section
/-! DEFINITION. Gantry Control (spec/08_gantry_states_halt_abort_and_dry_run.md): homing, the completion of moves, resume,
dry run. -/

namespace Sys2Proof.Machine

/-! ## Homing (R139) -/

/-- Homing step 1: Z is homed alone. -/
def State.homeZ (s : State) : State :=
  (s.setGantry (.homing .one)).issueHome [.z]

/-- Homing step 2: X, Y and C are homed together. -/
def State.homeRest (s : State) : State :=
  (s.setGantry (.homing .two)).issueHome [.x, .y, .c]

/-- Homing step 3: Z goes to Ztravel. -/
def State.homeRise (s : State) : State :=
  (s.setGantry (.homing .three)).issue [goTo .z s.travel.ztravel]

/-- The modelled head over the datum at the travel height (R139, R150). -/
def State.headHome (s : State) : Head :=
  { x := 0, y := 0, z := s.travel.ztravel, c := 0 }

/-- The end of homing: IDLE, the HOMED flag, and in dry run the modelled head at (0, 0, Ztravel) with C 0. -/
def State.homed (s : State) : State :=
  { s with gantry := { s.gantry with
      state := .idle, noteHomed := true, head := if s.gantry.dryRun then some s.headHome else s.gantry.head } }

/-! ## The completion of a move -/

/-- A move phase of a transfer completes (R119, R120, R125, R129, R130). -/
def State.completePhase (s : State) (t : Transfer) : State :=
  match t.phase, t.leg with
  | .toStack, _ => s.enterSearch
  | .search, .first => s.issueDescent t
  | .search, .second => s.endDescent t
  | .lift, _ => (s.setPhase .toLane).issueToLane t
  | .toLane, _ => (s.setPhase .lower).issue [goTo .z t.placeZ]
  | .lower, _ => s.enterRelease
  | .rise, _ => (s.endTransfer t).reevaluate
  | .retreat, _ => (s.endTransfer t).reevaluate
  | .grip, _ => s
  | .release, _ => s
  | .toReject, _ => s
  | .rejectLower, _ => s
  | .rejectRelease, _ => s
  | .rejectRise, _ => s

/-- A move phase of a put-down completes (R146, R147). -/
def State.completePutDown (s : State) (t : Transfer) : State :=
  match t.phase, t.leg with
  | .toReject, .first => s.issueTraverse
  | .toReject, .second => (s.setPhase .rejectLower).issueRejectLower t
  | .rejectLower, _ => s.enterRejectRelease
  | .rejectRise, _ => (s.endTransfer t).reevaluate
  | .toStack, _ => s
  | .search, _ => s
  | .grip, _ => s
  | .lift, _ => s
  | .toLane, _ => s
  | .lower, _ => s
  | .release, _ => s
  | .rise, _ => s
  | .retreat, _ => s
  | .rejectRelease, _ => s

/-- The move of the current homing step or phase has completed (R118, R139). -/
def State.completeMove (s : State) : State :=
  let r := s.setMove .still
  match s.gantry.state, s.transfer with
  | .homing .one, _ => r.homeRest
  | .homing .two, _ => r.homeRise
  | .homing .three, _ => r.homed.reevaluate
  | .cycling, some t => r.completePhase t
  | .aborting, some t => r.completePutDown t
  | .cycling, none => r
  | .aborting, none => r
  | .unhomed, _ => r
  | .idle, _ => r
  | .halted _, _ => r
  | .fault, _ => r

/-- Whether the gantry waits for homed reports: homing steps 1 and 2 (R139). -/
def Gantry.awaitsHomed : Gantry → Bool
  | .homing .one => true
  | .homing .two => true
  | .homing .three => false
  | .unhomed => false
  | .idle => false
  | .cycling => false
  | .halted _ => false
  | .aborting => false
  | .fault => false

/-- An axis has reported; the move completes when no axis is awaited any more (R118, R139). -/
def State.axisReported (s : State) (a : Axis) : State :=
  match s.gantry.move with
  | .awaiting axes =>
    if axes.get a then
      if (axes.set a false).toList.isEmpty then s.completeMove else s.setMove (.awaiting (axes.set a false))
    else s
  | .still => s
  | .modelled _ _ => s

/-- The modelled head takes a target (R118). -/
def Head.goes (h : Head) (t : Target) : Head :=
  match t.axis with
  | .x => { h with x := t.pos }
  | .y => { h with y := t.pos }
  | .z => { h with z := t.pos }
  | .c => { h with c := t.pos }

/-- The modelled head takes the issued targets at completion (R118, R137). -/
def State.headTakes (s : State) (ts : List Target) : State :=
  { s with gantry := { s.gantry with head := s.gantry.head.map fun h => ts.foldl Head.goes h } }

/-! ## RESUME (R143) -/

/-- The work of a phase issued afresh, `z` being the Z drive's position report at that moment (R143, R146, R147). -/
def State.resumePhase (s : State) (t : Transfer) (z : Nat) : State :=
  match t.phase with
  | .toStack => s.issueToStack t
  | .search => s.issueSearch z
  | .grip => s.startGrip
  | .lift => s.issue [goTo .z s.travel.ztravel]
  | .toLane => s.issueToLane t
  | .lower => s.issue [goTo .z t.placeZ]
  | .release => s.startRelease
  | .rise => s.issueRise
  | .retreat => s.issue [goTo .z s.travel.ztravel]
  | .toReject => s.issueRejectRise
  | .rejectLower => s.issueRejectLower t
  | .rejectRelease => s.startRelease
  | .rejectRise => s.issue [goTo .z s.travel.ztravel]

/-- The phase's work, when there is a record. -/
def State.resumeRecord (s : State) (z : Nat) : State :=
  match s.transfer with
  | none => s
  | some t => s.resumePhase t z

/-- The remembered state is restored (R143). -/
def State.resumeWork (s : State) (r : Remembered) (z : Nat) : State :=
  match r with
  | .homing => s.homeZ
  | .idle => s.setGantry .idle
  | .cycling => (s.setGantry .cycling).resumeRecord z
  | .aborting => (s.setGantry .aborting).resumeRecord z

/-! ## Dry run (R149, R150) -/

/-- The conditions for a change of the dry-run flag (R149). -/
def State.mayChangeDryRun (s : State) : Bool :=
  (s.gantry.state == .unhomed || s.gantry.state == .idle) && !s.holding &&
    allLanes.all fun l => (s.lane l).state == .parked || (s.lane l).state == .idle

/-- Entry into dry run (R150). -/
def State.enterDryRun (s : State) : State :=
  let r := { s with gantry := { s.gantry with dryRun := true, head := some s.headHome } }
  if s.inputs.safety then r.becomeHalted .idle else r.setGantry .idle

/-- Leaving dry run (R150). -/
def State.leaveDryRun (s : State) : State :=
  { s with gantry := { s.gantry with dryRun := false, head := none, state := .unhomed } }

/-- The dry-run value of an accepted SET MODES (R149, R150); an equal value is no change. -/
def State.setDryRun (s : State) (b : Bool) : State :=
  if b == s.gantry.dryRun then s else if b then s.enterDryRun else s.leaveDryRun

end Sys2Proof.Machine
end

