-- ==== Sys2Proof/Machine/StoreRequests.lean ====
section
/-! DEFINITION. What the Panel Store answers (spec/01_panel_store_and_panel_types.md). Each answer is made from the payload of
a frame of the right length (R170). -/

namespace Sys2Proof.Machine

/-- Some lane is FILLING or HANDED (R3, check 4). -/
def State.someBook (s : State) : Bool :=
  allLanes.any fun l => (s.lane l).state.book.isSome

/-- Checks 2 to 5 of R3. -/
def State.storeInUse (s : State) : Bool :=
  s.entryCount != 0 || allStacks.any (fun k => (s.stack k).present) || s.someBook || s.transferHolds

/-- PARTITION STORE (R3, R4): accepted, the decoder is PARTITIONING and the reply waits for the clearing (R171). -/
def answerPartitionStore (f : Frame) (s : State) : Answer :=
  match partitionOf (u8 f.body.payload 0) with
  | none => refuse .outOfRange s
  | some p =>
    if s.storeInUse then refuse .storeInUse s
    else { result := .ok, payload := [], state := { s with decoder := .partitioning p f }, wake := false, later := true }

/-- L, W, Tk and class inside their ranges of R8. -/
def typeInRange (len wid thk cls : Nat) : Bool :=
  (5400 ≤ len && len ≤ 56000) && (2000 ≤ wid && wid ≤ 22000) && (30 ≤ thk && thk ≤ 800) && (1 ≤ cls && cls ≤ 4)

/-- The entry DEFINE TYPE writes (R8, R10). -/
def newType (len wid thk cls : Nat) : TypeEntry :=
  { len := len, wid := wid, thk := thk, cls := cls, mask := zoneMask len, zones := zoneCount len }

/-- Write the type list. -/
def State.setTypes (s : State) (ts : List (Nat × TypeEntry)) : State :=
  { s with store := { s.store with types := ts } }

/-- DEFINE TYPE (R10): type, L, W, Tk, class. -/
def answerDefineType (f : Frame) (s : State) : Answer :=
  let p := f.body.payload
  let n := u8 p 0
  let e := newType (u16 p 1) (u16 p 3) (u16 p 5) (u8 p 7)
  if s.typeSlots ≤ n then refuse .typeUndefined s
  else if !typeInRange e.len e.wid e.thk e.cls then refuse .outOfRange s
  else if e.zones < classMinimum e.cls then refuse .gripShort s
  else if s.typeDefined n && s.typeInUse n then refuse .typeInUse s
  else reading [e.mask, byteOf e.zones] (s.setTypes (insertType s.store.types n e))

/-- DROP TYPE (R12). -/
def answerDropType (f : Frame) (s : State) : Answer :=
  let n := u8 f.body.payload 0
  if s.typeSlots ≤ n then refuse .typeUndefined s
  else if !s.typeDefined n then accept s
  else if s.typeInUse n then refuse .typeInUse s
  else accept (s.setTypes (eraseType s.store.types n))

def State.setTypeCursor (s : State) (n : Nat) : State :=
  { s with store := { s.store with typeCursor := n } }

def State.setListCursor (s : State) (n : Nat) : State :=
  { s with store := { s.store with listCursor := n } }

/-- SET TYPE CURSOR (R14). -/
def answerSetTypeCursor (f : Frame) (s : State) : Answer :=
  let n := u8 f.body.payload 0
  if n < s.typeSlots then accept (s.setTypeCursor n) else refuse .outOfRange s

/-- A type record of READ TYPES (R15). -/
def State.typeRecord (s : State) (n : Nat) : List Byte :=
  let e := s.typeEntry n
  [byteOf n, flagByte (s.typeDefined n)] ++ le16 e.len ++ le16 e.wid ++ le16 e.thk ++ [byteOf e.cls, e.mask, byteOf e.zones]

/-- READ TYPES (R15): four records from the type cursor, which then advances by 4 modulo T. -/
def answerReadTypes (_f : Frame) (s : State) : Answer :=
  let c := s.store.typeCursor
  let t := s.typeSlots
  reading (s.typeRecord (c % t) ++ s.typeRecord ((c + 1) % t) ++ s.typeRecord ((c + 2) % t) ++ s.typeRecord ((c + 3) % t))
    (s.setTypeCursor ((c + 4) % t))

end Sys2Proof.Machine
end

