-- ==== Sys2Proof/Machine/JobRequests.lean ====
section
/-! DEFINITION. What the Job List answers (spec/02_the_job_list.md). -/

namespace Sys2Proof.Machine

/-! ## ENQUEUE JOB (R23, R24) -/

/-- The entry an ENQUEUE JOB payload asks for, when every field is in its range (R18, R23 check 1): tag, type, stack,
lane, rotation, pattern, urgent, count. -/
def newJob (p : List Byte) : Option Job :=
  match stackOf (u8 p 3), jobLaneOf (u8 p 4), rotationOf (u8 p 5), boolOf (u8 p 8) with
  | some k, some l, some r, some urgent =>
    if 1 ≤ u16 p 0 ∧ u16 p 6 ≤ 4095 ∧ 1 ≤ u16 p 9 ∧ u16 p 9 ≤ 999 then
      some { tag := u16 p 0, type := u8 p 2, stack := k, lane := l, rotation := r, pattern := u16 p 6, urgent := urgent,
             count := u16 p 9, placed := 0, rejected := 0, lost := 0, clamped := 0, state := .queued, reason := none,
             cancelPending := false, inFlight := false }
    else none
  | _, _, _, _ => none

/-- ENQUEUE JOB (R23, R24): the reply carries the slot and the list position. -/
def answerEnqueueJob (f : Frame) (s : State) : Answer :=
  match newJob f.body.payload with
  | none => refuse .outOfRange s
  | some j =>
    if !s.typeDefined j.type then refuse .typeUndefined s
    else if (s.findTag j.tag).isSome then refuse .tagInUse s
    else if s.entryCount = s.jobSlots then refuse .listFull s
    else if (s.stack j.stack).present && (s.stack j.stack).type != j.type then refuse .stackType s
    else
      { result := .ok, payload := le16 s.loadCursor ++ le16 (s.entryCount + 1),
        state := s.setEntries (s.store.jobs.entries ++ [j]), wake := true, later := false }

/-! ## AMEND JOB (R25, R26) -/

/-- What an AMEND JOB carries (R25): tag, new count, new lane, new urgent. -/
structure Amendment where
  tag : Nat
  count : Nat
  lane : Option LaneNo
  urgent : Bool
  deriving DecidableEq, Repr

/-- The values of an AMEND JOB payload, when in range (R25 check 1). Tag 0 is out of range here, so AMEND JOB answers it with
OUT_OF_RANGE by check 1 of R25, which comes first, and not with R22's TAG_UNKNOWN (DESIGN CHOICE, log 28). -/
def amendmentOf (p : List Byte) : Option Amendment :=
  match jobLaneOf (u8 p 4), boolOf (u8 p 5) with
  | some l, some urgent =>
    if 1 ≤ u16 p 0 ∧ 1 ≤ u16 p 2 ∧ u16 p 2 ≤ 999 then
      some { tag := u16 p 0, count := u16 p 2, lane := l, urgent := urgent }
    else none
  | _, _ => none

/-- The entry after the amendment (R26). -/
def Job.amend (j : Job) (a : Amendment) : Job :=
  { j with count := a.count, lane := a.lane, urgent := a.urgent }

/-- Abandon the record's transfer if it is before its grip (R26, R28, R131, R142). -/
def State.abandonFor (s : State) (slot tag : Nat) : State :=
  if (s.transferFor slot tag).any fun t => t.phase.preGrip then s.abandon else s

/-- The state after an accepted amendment (R26): the job completes when the count equals placed with in-flight clear, and
its transfer before the grip is then abandoned. -/
def State.amended (s : State) (e : Located) (a : Amendment) : State :=
  let r := s.modifyJob e.slot fun j => j.amend a
  if a.count == e.job.placed && !e.job.inFlight then
    (r.abandonFor e.slot e.job.tag).finishJob e.slot .complete none
  else r

/-- The state an amended entry ends in (R26). -/
def amendedState (j : Job) (a : Amendment) : JobState :=
  if a.count == j.placed && !j.inFlight then .complete else j.state

/-- AMEND JOB (R25, R26): the reply carries state, count and placed after the amendment. Tag 0 is OUT_OF_RANGE (log 28). -/
def answerAmendJob (f : Frame) (s : State) : Answer :=
  match amendmentOf f.body.payload with
  | none => refuse .outOfRange s
  | some a =>
    match s.findTag a.tag with
    | none => refuse .tagUnknown s
    | some e =>
      if !e.job.live then refuse .jobState s
      else if e.job.cancelPending then refuse .jobState s
      else if a.lane != e.job.lane && (e.job.state == .active || (s.transferFor e.slot e.job.tag).isSome) then
        refuse .jobState s
      else if a.count < e.job.supplied then refuse .jobState s
      else
        { result := .ok,
          payload := [byteOf (amendedState e.job a).code] ++ le16 a.count ++ le16 e.job.placed,
          state := s.amended e a, wake := true, later := false }

/-! ## CANCEL JOB (R28, R29) -/

/-- A cancel that takes effect at once (R28). -/
def State.cancelled (s : State) (e : Located) : State :=
  (s.abandonFor e.slot e.job.tag).finishJob e.slot .cancelled none

/-- CANCEL JOB (R28, R29). -/
def answerCancelJob (f : Frame) (s : State) : Answer :=
  match s.findTag (u16 f.body.payload 0) with
  | none => refuse .tagUnknown s
  | some e =>
    if !e.job.live then refuse .jobState s
    else if e.job.cancelPending then { defer s with wake := true }
    else if s.committed e.slot e.job.tag then
      { defer (s.modifyJob e.slot fun j => { j with cancelPending := true }) with wake := true }
    else acceptWake (s.cancelled e)

/-! ## Reading (R38, R39, R40) -/

/-- Every field of R18, in its order. -/
def Job.fields (j : Job) : List Byte :=
  le16 j.tag ++ [byteOf j.type, byteOf j.stack.code, byteOf (jobLaneCode j.lane), byteOf j.rotation.degrees] ++
    le16 j.pattern ++ [flagByte j.urgent] ++ le16 j.count ++ le16 j.placed ++ le16 j.rejected ++ le16 j.lost ++
    le16 j.clamped ++
    [byteOf j.state.code, byteOf (reasonCode j.reason), flagByte j.cancelPending, flagByte j.inFlight]

/-- The window flag of a list position (R37, R38). -/
def State.inWindow (s : State) (pos : Nat) : Bool :=
  pos ≤ s.modes.window && pos ≤ s.entryCount

/-- READ JOB (R38). -/
def answerReadJob (f : Frame) (s : State) : Answer :=
  match s.findTag (u16 f.body.payload 0) with
  | none => refuse .tagUnknown s
  | some e => reading (le16 e.slot ++ le16 e.pos ++ [flagByte (s.inWindow e.pos)] ++ e.job.fields) s

/-- The code FROM-START (R165). -/
def fromStart : Nat :=
  0xFFFF

/-- SET LIST CURSOR (R39). -/
def answerSetListCursor (f : Frame) (s : State) : Answer :=
  let n := u16 f.body.payload 0
  if n = fromStart then reading (le16 s.store.jobs.start) (s.setListCursor s.store.jobs.start)
  else if n < s.jobSlots then accept (s.setListCursor n)
  else refuse .outOfRange s

/-- How many bytes a slot record of LIST JOBS has after its slot number (R40, R18). -/
def slotRecordRest : Nat :=
  27

/-- A slot record of LIST JOBS: an empty slot is reported with zeros (R40). -/
def State.slotRecord (s : State) (slot : Nat) : List Byte :=
  le16 slot ++
    (match s.located.find? fun e => e.slot == slot with
      | some e => [flagByte true] ++ le16 e.pos ++ [flagByte (s.inWindow e.pos)] ++ e.job.fields
      | none => List.replicate slotRecordRest 0)

/-- LIST JOBS (R40): three slot records from the list cursor, which then advances by 3 modulo J. -/
def answerListJobs (_f : Frame) (s : State) : Answer :=
  let c := s.store.listCursor
  let j := s.jobSlots
  reading (s.slotRecord (c % j) ++ s.slotRecord ((c + 1) % j) ++ s.slotRecord ((c + 2) % j)) (s.setListCursor ((c + 3) % j))

end Sys2Proof.Machine
end

