-- ==== Sys2Proof/Machine/StackRequests.lean ====
section
/-! DEFINITION. What the Stack Table answers (spec/03_stacks.md). -/

namespace Sys2Proof.Machine

/-- A value lies in a configured range. -/
def within (lo hi v : Nat) : Bool :=
  lo ≤ v && v ≤ hi

/-- SET STACK (R43): stack, Xs, Ys, Zf. -/
def answerSetStack (f : Frame) (s : State) : Answer :=
  let p := f.body.payload
  match stackOf (u8 p 0) with
  | none => refuse .outOfRange s
  | some k =>
    if (s.stack k).present then refuse .stackBusy s
    else if !(within s.travel.xMin s.travel.xMax (u16 p 1) && within s.travel.yMin s.travel.yMax (u16 p 3) &&
        within s.travel.zMin s.travel.zMax (u16 p 5)) then refuse .outOfRange s
    else accept (s.setStack k { s.stack k with geometrySet := true, xs := u16 p 1, ys := u16 p 3, zf := u16 p 5 })

/-- The stack after an accepted load (R46). -/
def StackRec.loaded (r : StackRec) (type count : Nat) : StackRec :=
  { r with present := true, type := type, count := count, suspect := false }

/-- Some entry of the job list names the stack (R45, check 5). -/
def State.jobsName (s : State) (k : StackNo) : Bool :=
  s.store.jobs.entries.any fun j => j.stack == k

/-- LOAD STACK (R45, R46): stack, type, count; the reply carries the stack's top. -/
def answerLoadStack (f : Frame) (s : State) : Answer :=
  let p := f.body.payload
  let n := u8 p 1
  let count := u16 p 2
  match stackOf (u8 p 0) with
  | none => refuse .outOfRange s
  | some k =>
    let top := (s.stack k).zf + count * (s.typeEntry n).thk
    if !within 1 500 count then refuse .outOfRange s
    else if !s.typeDefined n then refuse .typeUndefined s
    else if !(s.stack k).geometrySet then refuse .stackUnset s
    else if s.inWork k then refuse .stackBusy s
    else if (s.stack k).present && (s.stack k).type != n && s.jobsName k then refuse .stackType s
    else if s.travel.ztravel < top + 1000 then refuse .stackHeight s
    else
      { result := .ok, payload := le16 top, state := s.setStack k ((s.stack k).loaded n count), wake := true,
        later := false }

/-- UNLOAD STACK (R48). -/
def answerUnloadStack (f : Frame) (s : State) : Answer :=
  match stackOf (u8 f.body.payload 0) with
  | none => refuse .outOfRange s
  | some k =>
    if s.inWork k then refuse .stackBusy s
    else if !(s.stack k).present then accept s
    else accept (s.setStack k { s.stack k with present := false })

/-- A stack record of READ STACKS (R53). -/
def State.stackRecord (s : State) (k : StackNo) : List Byte :=
  let r := s.stack k
  [byteOf k.code, flagByte r.geometrySet] ++ le16 r.xs ++ le16 r.ys ++ le16 r.zf ++ [flagByte r.present, byteOf r.type] ++
    le16 r.count ++ [flagByte r.suspect, flagByte (s.inWork k)] ++ le16 (if r.present then s.stackTop k else 0)

/-- READ STACKS (R53). -/
def answerReadStacks (_f : Frame) (s : State) : Answer :=
  reading (allStacks.flatMap s.stackRecord) s

end Sys2Proof.Machine
end

