-- ==== Sys2Proof/Machine/LaneRequests.lean ====
section
/-! DEFINITION. What the Lane Units answer (spec/05_saw_lanes_and_books.md). -/

namespace Sys2Proof.Machine

/-! ## SET LANE (R74) -/

/-- The configuration a SET LANE payload asks for, with Hmax, count limit, timer time and book wait clamped, when sx, sy
and the timer mode have a meaning (R73, R74): lane, Xf, Yf, sx, sy, Lt, Wt, Zt, Hmax, count limit, timer mode, timer
time, book wait. -/
def laneConfigOf (p : List Byte) : Option LaneConfig :=
  match signOf (u8 p 5), signOf (u8 p 6), timerModeOf (u8 p 16) with
  | some sx, some sy, some mode =>
    some { xf := u16 p 1, yf := u16 p 3, sx := sx, sy := sy, lt := u16 p 7, wt := u16 p 9, zt := u16 p 11,
           hmax := clampTo 10 1200 (u16 p 13), countLimit := clampTo 1 12 (u8 p 15), timerMode := mode,
           timerTime := clampTo 1 600 (u16 p 17), bookWait := clampTo 0 120 (u8 p 19) }
  | _, _, _ => none

/-- A value of the payload was clamped (R74). -/
def laneConfigClamped (p : List Byte) (c : LaneConfig) : Bool :=
  c.hmax != u16 p 13 || c.countLimit != u8 p 15 || c.timerTime != u16 p 17 || c.bookWait != u8 p 19

/-- Check 3 of R74 on the geometry. -/
def State.laneGeometryOk (s : State) (c : LaneConfig) : Bool :=
  within s.travel.xMin s.travel.xMax c.xf && within s.travel.yMin s.travel.yMax c.yf &&
    within s.travel.zMin s.travel.zMax c.zt && within 1 65000 c.lt && within 1 30000 c.wt

/-- The twelve configuration values of R73, in order. -/
def LaneConfig.fields (c : LaneConfig) : List Byte :=
  le16 c.xf ++ le16 c.yf ++ [byteOf c.sx.code, byteOf c.sy.code] ++ le16 c.lt ++ le16 c.wt ++ le16 c.zt ++ le16 c.hmax ++
    [byteOf c.countLimit, byteOf c.timerMode.code] ++ le16 c.timerTime ++ [byteOf c.bookWait]

/-- SET LANE (R74). -/
def answerSetLane (f : Frame) (s : State) : Answer :=
  let p := f.body.payload
  match laneOf (u8 p 0) with
  | none => refuse .outOfRange s
  | some l =>
    if (s.lane l).state ≠ .parked then refuse .laneState s
    else
      match laneConfigOf p with
      | none => refuse .outOfRange s
      | some c =>
        if !s.laneGeometryOk c then refuse .outOfRange s
        else if s.travel.ztravel < c.zt + c.hmax + 1000 then refuse .travelConflict s
        else
          { result := if laneConfigClamped p c then .okAdjusted else .ok, payload := c.fields,
            state := s.setLane l { s.lane l with configured := true, cfg := c }, wake := false, later := false }

/-! ## PARK LANE, UNPARK LANE, CLOSE BOOK -/

/-- PARK LANE on a lane (R92). -/
def State.parkLane (s : State) (l : LaneNo) : Answer :=
  let v := s.lane l
  match v.state with
  | .parked => accept s
  | .idle =>
    if v.parkRequest then defer s
    else if v.inbound then defer ((s.setLane l { v with parkRequest := true }).leaveIdle l)
    else accept ((s.setLane l { v with state := .parked, noteParked := true }).leaveIdle l)
  | .filling _ =>
    if v.parkRequest then defer s
    else if v.inbound then defer (s.setLane l { v with parkRequest := true })
    else defer ((s.setLane l { v with parkRequest := true }).closeBook l)
  | .handed _ => if v.parkRequest then defer s else defer (s.setLane l { v with parkRequest := true })

def answerParkLane (f : Frame) (s : State) : Answer :=
  match laneOf (u8 f.body.payload 0) with
  | none => refuse .outOfRange s
  | some l => s.parkLane l

/-- UNPARK LANE on a lane (R93). Joining the idle queue is a re-evaluation event (R100). -/
def State.unparkLane (s : State) (l : LaneNo) : Answer :=
  let v := s.lane l
  if !v.configured then refuse .laneUnconfigured s
  else
    match v.state with
    | .parked => acceptWake ((s.setLane l { v with state := .idle }).joinIdle l)
    | .idle => if v.parkRequest then acceptWake ((s.setLane l { v with parkRequest := false }).joinIdle l) else accept s
    | .filling _ => accept (s.setLane l { v with parkRequest := false })
    | .handed _ => accept (s.setLane l { v with parkRequest := false })

def answerUnparkLane (f : Frame) (s : State) : Answer :=
  match laneOf (u8 f.body.payload 0) with
  | none => refuse .outOfRange s
  | some l => s.unparkLane l

/-- CLOSE BOOK on a lane (R86). -/
def State.requestClose (s : State) (l : LaneNo) : Answer :=
  match (s.lane l).state with
  | .filling _ =>
    if (s.lane l).inbound then defer (s.setLane l { s.lane l with closePending := true }) else accept (s.closeBook l)
  | .parked => refuse .laneState s
  | .idle => refuse .laneState s
  | .handed _ => refuse .laneState s

def answerCloseBook (f : Frame) (s : State) : Answer :=
  match laneOf (u8 f.body.payload 0) with
  | none => refuse .outOfRange s
  | some l => s.requestClose l

/-! ## READ LANE (R95) -/

/-- A time in milliseconds as READ LANE gives it, in seconds; whether a started second counts is left open (R95, log 10). -/
def secondsOf (ms : Nat) : Nat :=
  if ms % 1000 = 0 then ms / 1000 else ms / 1000 + (if Config.startedSecondCounts ms then 1 else 0)

/-- The seconds left on a timer; 0 when it does not run (R95). -/
def secondsLeft : Option Nat → Nat
  | none => 0
  | some ms => secondsOf ms

/-- A lane's place in a list of lanes, from 1, 0 when not in it (R95). -/
def placeIn (l : LaneNo) : List LaneNo → Nat
  | [] => 0
  | m :: r => if m = l then 1 else match placeIn l r with | 0 => 0 | n + 1 => n + 2

/-- The 2-byte idle-since age in seconds (R95, log 10). -/
def ageField (ms : Nat) : List Byte :=
  if secondsOf ms < 65536 then le16 (secondsOf ms) else le16 (Config.idleAgeBeyond (secondsOf ms)).toNat

/-- The age of a lane in the idle queue; absent, sent as 0, when it is not there (R95, R165). -/
def State.idleAgeField (s : State) (l : LaneNo) : List Byte :=
  match s.idleQueue.find? fun e => e.lane == l with
  | some e => ageField e.age
  | none => le16 0

/-- Key, entry count, H and entry list of a book (R94, R95, R164). In READ LANE too the entry list has no count byte of its own
beside R165's: the entry count, sent before H, is its count, as in the LANE notice of R164 (DEDUCED, log 9). -/
def Book.fields (b : Book) : List Byte :=
  [byteOf b.key.type] ++ le16 b.key.pattern ++ [byteOf b.key.rotation.degrees, byteOf b.tags.length] ++ le16 b.height ++
    b.tags.flatMap le16

/-- The book of READ LANE; absent fields are sent as 0 (R165, log 9). -/
def bookFields : Option Book → List Byte
  | some b => b.fields
  | none => List.replicate 7 0

/-- The payload of READ LANE (R95). -/
def State.laneReport (s : State) (l : LaneNo) : List Byte :=
  let v := s.lane l
  [flagByte v.configured] ++ v.cfg.fields ++
    [byteOf v.state.code, flagByte v.parkRequest, flagByte v.inbound, flagByte v.closePending, flagByte v.stalled,
      flagByte (s.sawReady l), flagByte (s.bookReady l)] ++
    le16 (secondsLeft v.laneTimer) ++ le16 (secondsLeft v.bookTimer) ++
    le16 (placeIn l (s.idleQueue.map IdleEntry.lane)) ++ le16 (placeIn l s.fillingOrder) ++ s.idleAgeField l ++
    bookFields v.state.book

/-- READ LANE (R95). -/
def answerReadLane (f : Frame) (s : State) : Answer :=
  match laneOf (u8 f.body.payload 0) with
  | none => refuse .outOfRange s
  | some l => reading (s.laneReport l) s

end Sys2Proof.Machine
end

