-- ==== Sys2Proof/Machine/GantryRequests.lean ====
section
/-! DEFINITION. What the Dispatcher, Gantry Control and the Fault Record answer (spec/06, spec/08, spec/09), and QUERY STATUS
(spec/10). -/

namespace Sys2Proof.Machine

/-! ## Run mode (R98) -/

/-- RUN (R98): a re-evaluation event. -/
def answerRun (_f : Frame) (s : State) : Answer :=
  acceptWake { s with runMode := .run }

/-- HOLD (R98). -/
def answerHold (_f : Frame) (s : State) : Answer :=
  accept { s with runMode := .hold }

/-! ## HOME, HALT, RESUME, ABORT -/

/-- HOME (R138); a fault input found asserted at the entry into HOMING is a fault event (R153). DEDUCED: the spec does not say
whether Z's home command of R138 then leaves before the fault's stop commands; the model issues it first (log 24, unsafe), and
the reply is built after the fault (log 13). -/
def answerHome (_f : Frame) (s : State) : Answer :=
  if s.gantry.state = .unhomed ∨ s.gantry.state = .idle then
    if s.inputs.safety then refuse .safetyActive s else accept s.homeZ.faultsFound
  else refuse .gantryState s

/-- HALT (R141). -/
def answerHalt (_f : Frame) (s : State) : Answer :=
  accept s.halt

/-- RESUME (R143), `z` being the Z drive's position report at that moment (R120); a gantry entering IDLE is a re-evaluation
event (R100). -/
def answerResume (_f : Frame) (z : Nat) (s : State) : Answer :=
  if s.inputs.safety then refuse .safetyActive s
  else
    match s.gantry.state.remembered with
    | none => refuse .gantryState s
    | some r => { accept (s.resumeWork r z) with wake := r == .idle }

/-- ABORT of a CYCLING transfer (R145). -/
def State.abortTransfer (s : State) (t : Transfer) : Answer :=
  match t.phase with
  | .toStack => accept s.enterRetreat
  | .search => accept s.enterRetreat
  | .grip => accept s.enterRetreat
  | .lift => accept (s.enterAborting t)
  | .toLane => accept (s.enterAborting t)
  | .lower => accept (s.enterAborting t)
  | .release => defer s
  | .rise => defer s
  | .retreat => refuse .nothingToAbort s
  | .toReject => refuse .nothingToAbort s
  | .rejectLower => refuse .nothingToAbort s
  | .rejectRelease => refuse .nothingToAbort s
  | .rejectRise => refuse .nothingToAbort s

/-- ABORT (R145). -/
def answerAbort (_f : Frame) (s : State) : Answer :=
  match s.gantry.state with
  | .cycling =>
    match s.transfer with
    | some t => s.abortTransfer t
    | none => refuse .nothingToAbort s
  | .idle => refuse .nothingToAbort s
  | .unhomed => refuse .nothingToAbort s
  | .aborting => refuse .nothingToAbort s
  | .homing _ => refuse .gantryState s
  | .halted _ => refuse .gantryState s
  | .fault => refuse .gantryState s

/-! ## Faults -/

/-- RELEASE HELD in HALTED turns the remembered carry into RETREAT under CYCLING (R160). -/
def State.haltedRelease (s : State) : State :=
  (s.boardLost.setPhase .retreat).setGantry (.halted .cycling)

/-- RELEASE HELD (R160). -/
def answerReleaseHeld (_f : Frame) (s : State) : Answer :=
  match s.gantry.state with
  | .fault => if s.holding then accept s.boardLost else refuse .nothingToAbort s
  | .halted _ => if s.holding then accept s.haltedRelease else refuse .nothingToAbort s
  | .unhomed => refuse .gantryState s
  | .homing _ => refuse .gantryState s
  | .idle => refuse .gantryState s
  | .cycling => refuse .gantryState s
  | .aborting => refuse .gantryState s

/-- The record's job, if its board was left uncounted, counts it lost (R161, step 1). -/
def State.settleInFlight (s : State) : State :=
  match s.recordJob with
  | none => s
  | some j => if j.inFlight then s.onRecordJob Job.lose else s

/-- A transfer record is settled and removed (R161, steps 1 to 4). -/
def State.settleRecord (s : State) : State :=
  match s.transfer with
  | none => s
  | some t => s.settleInFlight.closeRecord t

/-- The fault entry is removed and the gantry becomes UNHOMED; flag and report stay (R158, R161). -/
def State.clearEntry (s : State) : State :=
  { s.setGantry .unhomed with fault := { s.fault with entry := none } }

/-- CLEAR FAULT (R161). -/
def answerClearFault (_f : Frame) (s : State) : Answer :=
  if s.inputs.safety then refuse .safetyActive s
  else if s.gantry.state ≠ .fault then refuse .gantryState s
  else if s.holding then refuse .panelHeld s
  else accept s.settleRecord.clearEntry

/-- The fields of R154 in READ FAULT, absent ones as none (R159, R165, log 9). -/
def FaultEntry.fields (e : FaultEntry) : List Byte :=
  [flagByte true, byteOf e.kind.code, byteOf e.found.code, byteOf (rememberedCode e.remembered),
    byteOf (phaseCode e.phase)] ++
    le16 (e.jobTag.getD 0) ++ [flagByte e.held] ++ le16 e.lastX ++ le16 e.lastY ++ le16 e.lastZ ++ le16 e.further

/-- How many bytes the entry takes in READ FAULT. -/
def faultFieldBytes : Nat :=
  16

/-- READ FAULT (R159): the entry or zeros, then the levels of the four drive-fault reports and the limit input. -/
def answerReadFault (_f : Frame) (s : State) : Answer :=
  reading
    ((match s.fault.entry with
        | some e => e.fields
        | none => List.replicate faultFieldBytes 0) ++
      (allAxes.map fun a => flagByte (s.inputs.driveFault.get a)) ++ [flagByte s.inputs.limit])
    s

/-! ## QUERY STATUS (R174) -/

/-- The transfer fields of QUERY STATUS (R174). -/
def transferFields : Option Transfer → List Byte
  | some t =>
    [flagByte true] ++ le16 t.jobTag ++
      [byteOf t.stack.code, byteOf (laneCode t.lane), byteOf t.phase.code, byteOf t.attempts, flagByte t.held,
        flagByte t.zc.isSome] ++
      le16 (t.zc.getD 0)
  | none => List.replicate 11 0

/-- The remembered phase, while HALTED out of CYCLING or ABORTING (R152, R174). -/
def State.rememberedPhase (s : State) : Option Phase :=
  match s.gantry.state with
  | .halted _ => s.shownPhase
  | .unhomed => none
  | .homing _ => none
  | .idle => none
  | .cycling => none
  | .aborting => none
  | .fault => none

/-- The homing step, 0 when not HOMING (R174). -/
def Gantry.stepCode : Gantry → Nat
  | .homing st => st.code
  | .unhomed => 0
  | .idle => 0
  | .cycling => 0
  | .halted _ => 0
  | .aborting => 0
  | .fault => 0

/-- The modelled head, zeros outside dry run (R174). -/
def headFields : Option Head → List Byte
  | some h => le16 h.x ++ le16 h.y ++ le16 h.z ++ [byteOf h.c]
  | none => List.replicate 7 0

/-- QUERY STATUS (R174). -/
def answerQueryStatus (_f : Frame) (s : State) : Answer :=
  reading
    ([byteOf s.decoder.code] ++ transferFields s.transfer ++
      [byteOf (rememberedCode s.gantry.state.remembered), byteOf (phaseCode s.rememberedPhase),
        byteOf s.gantry.state.stepCode] ++
      headFields s.gantry.head)
    s

end Sys2Proof.Machine
end

