-- ==== Sys2Proof/Machine/ConfigRequests.lean ====
section
/-! DEFINITION. SET MODES, SET TRAVEL, READ CONFIG and RESTART (spec/11_configuration_start_up_and_restart.md). -/

namespace Sys2Proof.Machine

/-! ## SET MODES (R179) -/

/-- What a SET MODES carries, each number clamped into its stored range (R179). -/
structure ModesRequest where
  modes : Modes
  dryRun : Bool
  deriving DecidableEq, Repr

/-- The values of a SET MODES payload when rounding mode and dry-run flag have a meaning (R165, R179 check 1): rounding
mode, window depth, starve time, dry-run flag, dry move time, four grip settle times, release settle, contact tolerance,
clamp tolerance. -/
def modesOf (p : List Byte) : Option ModesRequest :=
  match roundingOf (u8 p 0), boolOf (u8 p 4) with
  | some r, some dry =>
    some { modes := { rounding := r, window := clampTo 1 16 (u8 p 1), starve := clampTo 0 600 (u16 p 2),
                      dryMove := clampTo 50 5000 (u16 p 5), settle1 := clampTo 50 2000 (u16 p 7),
                      settle2 := clampTo 50 2000 (u16 p 9), settle3 := clampTo 50 2000 (u16 p 11),
                      settle4 := clampTo 50 2000 (u16 p 13), release := clampTo 20 500 (u16 p 15),
                      contactTol := clampTo 10 200 (u16 p 17), clampTol := clampTo 0 50 (u16 p 19) },
           dryRun := dry }
  | _, _ => none

/-- The 21 values as stored, in request order (R165, R179). -/
def Modes.fields (m : Modes) (dry : Bool) : List Byte :=
  [byteOf m.rounding.code, byteOf m.window] ++ le16 m.starve ++ [flagByte dry] ++ le16 m.dryMove ++ le16 m.settle1 ++
    le16 m.settle2 ++ le16 m.settle3 ++ le16 m.settle4 ++ le16 m.release ++ le16 m.contactTol ++ le16 m.clampTol

/-- SET MODES (R179, R149, R150): the settings take the stored values together. A value was clamped exactly when the
stored bytes differ from the bytes sent. -/
def answerSetModes (f : Frame) (s : State) : Answer :=
  match modesOf f.body.payload with
  | none => refuse .outOfRange s
  | some r =>
    if r.dryRun != s.gantry.dryRun && !s.mayChangeDryRun then refuse .gantryState s
    else
      let stored := r.modes.fields r.dryRun
      { result := if stored = f.body.payload then .ok else .okAdjusted, payload := stored,
        state := { s with modes := r.modes }.setDryRun r.dryRun, wake := true, later := false }

/-! ## SET TRAVEL (R180, R181) -/

/-- The values of a SET TRAVEL payload: X min, X max, Y min, Y max, Z min, Z max, Ztravel, Xr, Yr, Zr (R165). -/
def travelOf (p : List Byte) : Travel :=
  { xMin := u16 p 0, xMax := u16 p 2, yMin := u16 p 4, yMax := u16 p 6, zMin := u16 p 8, zMax := u16 p 10,
    ztravel := u16 p 12, xr := u16 p 14, yr := u16 p 16, zr := u16 p 18 }

/-- The 20 values, in request order. -/
def Travel.fields (t : Travel) : List Byte :=
  le16 t.xMin ++ le16 t.xMax ++ le16 t.yMin ++ le16 t.yMax ++ le16 t.zMin ++ le16 t.zMax ++ le16 t.ztravel ++
    le16 t.xr ++ le16 t.yr ++ le16 t.zr

/-- Check 2 of R180: inside the hardware ranges, each min below its max. -/
def Travel.rangesOk (t : Travel) : Bool :=
  (t.xMin < t.xMax && t.xMax ≤ 65000) && (t.yMin < t.yMax && t.yMax ≤ 30000) && (t.zMin < t.zMax && t.zMax ≤ 25000)

/-- Check 3 of R180. -/
def Travel.pointsOk (t : Travel) : Bool :=
  within t.zMin t.zMax t.ztravel && within t.xMin t.xMax t.xr && within t.yMin t.yMax t.yr && within t.zMin t.zMax t.zr

/-- Check 4 of R180 holds: Ztravel clears every PRESENT stack by 1000. -/
def State.stacksClear (s : State) (z : Nat) : Bool :=
  allStacks.all fun k => !(s.stack k).present || s.stackTop k + 1000 ≤ z

/-- Check 5 of R180 holds: Ztravel clears every configured lane by 1000. -/
def State.lanesClear (s : State) (z : Nat) : Bool :=
  allLanes.all fun l => !(s.lane l).configured || (s.lane l).cfg.zt + (s.lane l).cfg.hmax + 1000 ≤ z

/-- The effect of an accepted SET TRAVEL on the gantry (R181). -/
def State.travelChanged (s : State) (oldZ : Nat) : State :=
  if s.gantry.state = .idle then
    if s.gantry.dryRun then
      { s with gantry := { s.gantry with head := s.gantry.head.map fun h => { h with z := s.travel.ztravel } } }
    else if s.travel.ztravel = oldZ then s
    else s.setGantry .unhomed
  else s

/-- SET TRAVEL (R180, R181). -/
def answerSetTravel (f : Frame) (s : State) : Answer :=
  let t := travelOf f.body.payload
  if s.gantry.state ≠ .unhomed ∧ s.gantry.state ≠ .idle ∧ s.gantry.state ≠ .fault then refuse .gantryState s
  else if !t.rangesOk then refuse .outOfRange s
  else if !t.pointsOk then refuse .outOfRange s
  else if !s.stacksClear t.ztravel then refuse .travelConflict s
  else if !s.lanesClear t.ztravel then refuse .travelConflict s
  else if t.ztravel < t.zr + 1000 then refuse .travelConflict s
  else accept ({ s with travel := t }.travelChanged s.travel.ztravel)

/-! ## READ CONFIG (R182) -/

/-- Partition number, J and T (R4, R182). -/
def Partition.fields (p : Partition) : List Byte :=
  [byteOf p.code] ++ le16 p.jobSlots ++ le16 p.typeSlots

/-- READ CONFIG (R182). -/
def answerReadConfig (_f : Frame) (s : State) : Answer :=
  reading
    (s.store.partition.fields ++ s.modes.fields s.gantry.dryRun ++ s.travel.fields ++ [byteOf s.link.baud]) s

/-! ## RESTART (R184) -/

/-- The job region counts as holding no entries from the acceptance on (R184); its pointers are set at the end of the
clearing (R7, log 19). -/
def JobList.emptied (j : JobList) : JobList :=
  { j with entries := [] }

/-- The discard of a record in FAULT without its end effects (R41, R114, R184). -/
def State.discardRecord (s : State) : State :=
  if s.gantry.state = .fault then { s with transfer := none, gripCounter := .stopped, releaseCounter := .stopped }
  else s

/-- The effects of an accepted RESTART, made at the acceptance (R41, R97, R98, R178, R184). -/
def State.restarted (s : State) (f : Frame) : State :=
  { s.discardRecord with
    decoder := .restarting f
    runMode := .hold
    lanes := s.lanes.map Lane.restarted
    idleQueue := []
    fillingOrder := []
    notices := { fifo := [], lost := false }
    store := { s.store with jobs := s.store.jobs.emptied } }

/-- RESTART (R184). -/
def answerRestart (f : Frame) (s : State) : Answer :=
  if s.gantry.state ≠ .unhomed ∧ s.gantry.state ≠ .idle ∧ s.gantry.state ≠ .fault then refuse .gantryState s
  else if s.gantry.state = .fault ∧ s.holding then refuse .panelHeld s
  else { result := .ok, payload := [], state := s.restarted f, wake := false, later := true }

end Sys2Proof.Machine
end

