-- ==== Sys2Proof/Machine/Link.lean ====
section
/-! DEFINITION. The message link (spec/10_the_message_link.md): the decoder's take, the reply slot, the receiver, the output
arbiter, and the store clearing. -/

namespace Sys2Proof.Machine

/-! ## Replies (R170, R172, R173) -/

/-- Bit 0 of the flags byte asks for a summary (R164, R170). -/
def Body.wantsSummary (b : Body) : Bool :=
  b.flags.getLsbD 0

def State.setLink (s : State) (k : Link) : State :=
  { s with link := k }

/-- Placing a summary clears the last link error kind and job-notice-lost (R169, R173). -/
def State.summaryPlaced (s : State) : State :=
  { s with link := { s.link with lastError := .none }, notices := { s.notices with lost := false } }

/-- The reply frame's kind: the request's with bit 7 set (R164, R170). -/
def replyKind (kind : Byte) : Byte :=
  kind ||| 0x80

/-- A reply carries a payload only when its result is OK, OK_ADJUSTED or DEFERRED (R165). -/
def Result.carries (r : Result) : Bool :=
  r == .ok || r == .okAdjusted || r == .deferred

/-- The reply is placed in the reply slot, with the summary built at that moment when asked for (R170, R173). -/
def State.placeReply (s : State) (f : Frame) (r : Result) (payload : List Byte) : State :=
  let p := if r.carries then payload else []
  let put (t : State) (full : List Byte) : State :=
    t.setLink { t.link with slot := some { kind := replyKind f.kind, tag := f.body.tag, result := r.code, payload := full } }
  if Body.wantsSummary f.body then put s.summaryPlaced (p ++ s.summary) else put s p

/-! ## The decoder (R170, R171) -/

/-- The answer of the block that owns a request. `z` is the Z drive's position report at the moment the request is taken,
which RESUME alone may read (R120, R143). -/
def answerOf (k : RequestKind) (f : Frame) (z : Nat) (s : State) : Answer :=
  match k with
  | .queryStatus => answerQueryStatus f s
  | .readFault => answerReadFault f s
  | .setModes => answerSetModes f s
  | .setTravel => answerSetTravel f s
  | .readConfig => answerReadConfig f s
  | .partitionStore => answerPartitionStore f s
  | .restart => answerRestart f s
  | .defineType => answerDefineType f s
  | .dropType => answerDropType f s
  | .setTypeCursor => answerSetTypeCursor f s
  | .readTypes => answerReadTypes f s
  | .enqueueJob => answerEnqueueJob f s
  | .amendJob => answerAmendJob f s
  | .cancelJob => answerCancelJob f s
  | .readJob => answerReadJob f s
  | .setListCursor => answerSetListCursor f s
  | .listJobs => answerListJobs f s
  | .setStack => answerSetStack f s
  | .loadStack => answerLoadStack f s
  | .unloadStack => answerUnloadStack f s
  | .readStacks => answerReadStacks f s
  | .setLane => answerSetLane f s
  | .parkLane => answerParkLane f s
  | .unparkLane => answerUnparkLane f s
  | .closeBook => answerCloseBook f s
  | .readLane => answerReadLane f s
  | .home => answerHome f s
  | .run => answerRun f s
  | .hold => answerHold f s
  | .halt => answerHalt f s
  | .resume => answerResume f z s
  | .abort => answerAbort f s
  | .clearFault => answerClearFault f s
  | .releaseHeld => answerReleaseHeld f s

/-- The reply of an ordinary request is placed, and a selection attempt the request brings about follows it
(R99, R170); the reply of an accepted PARTITION STORE or RESTART waits for the clearing (R171). -/
def Answer.deliver (a : Answer) (f : Frame) : State :=
  if a.later then a.state
  else
    let r := a.state.placeReply f a.result a.payload
    if a.wake then r.reevaluate else r

/-- The decoder examines a frame it has taken: kind, length, busy, then the owning block (R170). -/
def State.examine (s : State) (f : Frame) (z : Nat) : State :=
  match kindOf f.kind with
  | none => s.placeReply f .unknownKind []
  | some k =>
    if f.body.payload.length ≠ k.payloadLength then s.placeReply f .badLength []
    else if s.decoder ≠ .ready ∧ k ≠ .queryStatus then s.placeReply f .busy []
    else (answerOf k f z s).deliver f

/-- The decoder takes the held frame when the reply slot is empty and no reply waits (R170). -/
def State.takeHeld (s : State) (z : Nat) : State :=
  match s.link.held, s.link.slot, s.waiting with
  | some f, none, none => (s.setLink { s.link with held := none }).examine f z
  | _, _, _ => s

/-! ## The receiver (R166 to R169) -/

/-- A discard records its kind (R169). -/
def State.discard (s : State) (e : LinkError) : State :=
  s.setLink { s.link with lastError := e }

/-- A discard of the frame being assembled: the receiver hunts (R166). -/
def State.dropFrame (s : State) (e : LinkError) : State :=
  s.setLink { s.link with rx := .hunting, lastError := e }

/-- A complete frame becomes the held frame, or is discarded with OVERRUN (R168); the decoder takes it at once when it
can (R170). -/
def State.frameComplete (s : State) (f : Frame) (z : Nat) : State :=
  match s.link.held with
  | some _ => s.discard .overrun
  | none => (s.setLink { s.link with held := some f }).takeHeld z

/-- The start byte (R164). -/
def startByte : Byte :=
  0xA6

/-- The largest payload of a request (R164). -/
def maxPayload : Nat :=
  56

/-- The frame of its bytes (R164). -/
def frameOf (bs : List Byte) : Frame :=
  { kind := bs.getD 2 0,
    body := { tag := bs.getD 3 0, flags := bs.getD 4 0, payload := (bs.drop 5).take (u8 bs 1) } }

/-- A character with good parity taken while assembling, the bytes so far with it (R166). -/
def State.assemble (s : State) (bs : List Byte) (z : Nat) : State :=
  if bs.length = 2 ∧ maxPayload < u8 bs 1 then s.dropFrame .length
  else if 2 ≤ bs.length ∧ bs.length = u8 bs 1 + 6 then
    if byteSum bs = 0 then (s.setLink { s.link with rx := .hunting }).frameComplete (frameOf bs) z
    else s.dropFrame .check
  else s.setLink { s.link with rx := .assembling bs }

/-- A character taken at its stop bit (R166). -/
def State.takeCharacter (s : State) (v : Byte) (parityOk : Bool) (z : Nat) : State :=
  match s.link.rx with
  | .hunting => if parityOk && v == startByte then s.setLink { s.link with rx := .assembling [v] } else s
  | .assembling bs => if parityOk then s.assemble (bs ++ [v]) z else s.dropFrame .parity

/-- A request frame that arrives whole (log 1): one longer than 56 payload bytes is discarded with LENGTH (R166). -/
def State.requestArrives (s : State) (f : Frame) (z : Nat) : State :=
  if maxPayload < f.body.payload.length then s.discard .length else s.frameComplete f z

/-! ## The store clearing (R4, R6, R7, R171) -/

/-- The clearing's reply is placed and the decoder becomes READY, or the reply waits for the slot (R171). -/
def State.clearingReply (s : State) (f : Frame) (payload : List Byte) : State :=
  match s.link.slot with
  | none => { s with decoder := .ready }.placeReply f .ok payload
  | some _ => { s with waiting := some { request := f, payload := payload } }

/-- The store clearing ends (R4, R6, R7, R171); with a reply waiting it has ended before. -/
def State.clearingEnds (s : State) : State :=
  match s.decoder, s.waiting with
  | .starting, none => { s with store := .cleared .p1, decoder := .ready }
  | .partitioning p f, none => { s with store := .cleared p }.clearingReply f p.fields
  | .restarting f, none => { s with store := s.store.clearJobs }.clearingReply f []
  | .ready, _ => s
  | _, some _ => s

/-- The waiting reply is placed when the slot is empty, and the decoder becomes READY (R171). -/
def State.placeWaiting (s : State) : State :=
  match s.waiting, s.link.slot with
  | some w, none => { s with decoder := .ready, waiting := none }.placeReply w.request .ok w.payload
  | _, _ => s

/-! ## Sending (R175 to R178) -/

def noticeJobFinished : Byte := 0xE1
def noticeLane : Byte := 0xE2
def noticeStack : Byte := 0xE3
def noticeGantry : Byte := 0xE4
def noticeFault : Byte := 0xE5

/-- JOB FINISHED (R164). -/
def JobNotice.fields (n : JobNotice) : List Byte :=
  le16 n.tag ++ [byteOf n.final.code, byteOf (reasonCode n.reason)] ++ le16 n.placed ++ le16 n.rejected ++ le16 n.lost ++
    le16 n.clamped

/-- LANE (R94, R164). -/
def Lane.noticeFields (v : Lane) (l : LaneNo) : List Byte :=
  [byteOf (laneCode l), byteOf (bits [v.noteHanded, v.noteParked, v.noteStalled, v.noteSpurious]), byteOf v.state.code] ++
    (if v.noteHanded then
      match v.report with
      | some b => b.fields
      | none => List.replicate 7 0
    else [])

/-- The four flags of a lane clear (R94). -/
def Lane.noticeSent (v : Lane) : Lane :=
  { v with noteHanded := false, noteParked := false, noteStalled := false, noteSpurious := false }

/-- STACK (R52, R164): the EMPTY flags, then the SUSPECT flags. -/
def State.stackNoticeFields (s : State) : List Byte :=
  [byteOf (bits (allStacks.map fun k => (s.stack k).emptyFlag)),
    byteOf (bits (allStacks.map fun k => (s.stack k).suspectFlag))]

/-- Both flags of a stack clear (R52). -/
def StackRec.noticeSent (r : StackRec) : StackRec :=
  { r with emptyFlag := false, suspectFlag := false }

/-- A frame is placed in the transmitter. -/
def State.send (s : State) (bytes : List Byte) : State :=
  s.setLink { s.link with tx := some bytes }

/-- A notice frame: tag and byte 4 are 0 (R164). -/
def State.sendNotice (s : State) (kind : Byte) (payload : List Byte) : State :=
  s.send (frameBytes kind 0 0 payload)

/-- The reply leaves the slot for the transmitter, and the decoder may take the held frame (R170, R175). -/
def State.sendReply (s : State) (r : Reply) (z : Nat) : State :=
  (s.setLink { s.link with slot := none, tx := some (frameBytes r.kind r.tag r.result r.payload) }).takeHeld z

/-- The FAULT notice (R158). -/
def State.sendFault (s : State) : State :=
  { s with fault := { s.fault with note := false } }.sendNotice noticeFault
    [byteOf (faultKindCode s.fault.reportKind), byteOf s.fault.reportCount]

/-- The GANTRY notice (R152). -/
def State.sendGantry (s : State) : State :=
  { s with gantry := { s.gantry with noteHomed := false, noteHalted := false } }.sendNotice noticeGantry
    [byteOf (bits [s.gantry.noteHomed, s.gantry.noteHalted]), byteOf s.gantry.state.code]

/-- The LANE notice of a lane (R94). -/
def State.sendLane (s : State) (l : LaneNo) : State :=
  (s.setLane l (s.lane l).noticeSent).sendNotice noticeLane ((s.lane l).noticeFields l)

/-- The STACK notice (R52). -/
def State.sendStack (s : State) : State :=
  { s with stackTable := s.stackTable.map StackRec.noticeSent }.sendNotice noticeStack s.stackNoticeFields

/-- The JOB FINISHED notice of the oldest entry (R178). -/
def State.sendJob (s : State) (n : JobNotice) (rest : List JobNotice) : State :=
  { s with notices := { s.notices with fifo := rest } }.sendNotice noticeJobFinished n.fields

/-- The first waiting item goes out (R176). -/
def State.sendNext (s : State) (z : Nat) : State :=
  match s.link.slot with
  | some r => s.sendReply r z
  | none =>
    if s.fault.note then s.sendFault
    else if s.gantryNoticePending then s.sendGantry
    else
      match s.laneNoticeDue with
      | some l => s.sendLane l
      | none =>
        if s.stackNoticePending then s.sendStack
        else
          match s.notices.fifo with
          | n :: rest => s.sendJob n rest
          | [] => s

/-- A frame starts only with the transmitter idle and HOST-READY asserted (R175). -/
def State.startFrame (s : State) (z : Nat) : State :=
  if s.link.tx.isNone && s.inputs.hostReady then s.sendNext z else s

end Sys2Proof.Machine
end

