-- ==== Sys2Proof/Machine/CellEvents.lean ====
section
/-! DEFINITION. The commands of the cell's lines, drive ports and timers (spec/05 to spec/09), and a millisecond of time. -/

namespace Sys2Proof.Machine

/-! ## Lines -/

/-- The level of a line changes, and outside reset its event is taken. The level is the wire's, so it changes under reset
too, where the part takes no input (R183, R185; log 7). -/
def State.onLine (s : State) (lines : Inputs) (f : State → State) : Host.Outcome State Fault Refusal :=
  .next (if s.resetHeld then { s.quiet with inputs := lines } else f { s.quiet with inputs := lines })

/-- The safety line's level. -/
def Inputs.withSafety (i : Inputs) (level : Bool) : Inputs :=
  { i with safety := level }

/-- The Z drive's position report. -/
def Inputs.withZ (i : Inputs) (z : Nat) : Inputs :=
  { i with zReport := z }

/-- The contact sensor's level, with the Z drive's position report. -/
def Inputs.withContact (i : Inputs) (level : Bool) (z : Nat) : Inputs :=
  { i with contact := level, zReport := z }

/-- HOLD-LOST's level. -/
def Inputs.withHoldLost (i : Inputs) (level : Bool) : Inputs :=
  { i with holdLost := level }

/-- The level of an axis's drive-fault report. -/
def Inputs.withDriveFault (i : Inputs) (a : Axis) (level : Bool) : Inputs :=
  { i with driveFault := i.driveFault.set a level }

/-- The limit input's level. -/
def Inputs.withLimit (i : Inputs) (level : Bool) : Inputs :=
  { i with limit := level }

/-- A lane's SAW-READY. -/
def Inputs.withSawReady (i : Inputs) (l : LaneNo) (level : Bool) : Inputs :=
  { i with sawReady := i.sawReady.set l level }

/-! ## The safety line (R140) -/

/-- SAFETY_LINE_ASSERTED (R140, R142). -/
def execSafetyLineAsserted (s : State) : Host.Outcome State Fault Refusal :=
  s.onLine (s.inputs.withSafety true) State.halt

/-- SAFETY_LINE_RELEASED (R140): only the level changes. -/
def execSafetyLineReleased (s : State) : Host.Outcome State Fault Refusal :=
  s.onLine (s.inputs.withSafety false) id

/-! ## The drive ports -/

/-- An in-position report counts for the move issued last, outside dry run, and not in a homing step that waits for homed
reports (R118, R139, R151). -/
def State.inPosition (s : State) (a : Axis) (stale : Bool) : State :=
  if stale || s.gantry.dryRun || s.gantry.state.awaitsHomed then s else s.axisReported a

/-- IN_POSITION_REPORT (R118). -/
def execInPositionReport (axis : Axis) (stale : Bool) (z : Nat) (s : State) : Host.Outcome State Fault Refusal :=
  s.onLine (s.inputs.withZ z) fun s => s.inPosition axis stale

/-- A homed report counts for homing steps 1 and 2 only (R139). -/
def State.homedReport (s : State) (a : Axis) (stale : Bool) : State :=
  if stale || s.gantry.dryRun || !s.gantry.state.awaitsHomed then s else s.axisReported a

/-- HOMED_REPORT (R139). -/
def execHomedReport (axis : Axis) (stale : Bool) (s : State) : Host.Outcome State Fault Refusal :=
  s.take fun s => s.homedReport axis stale

/-- A modelled move has had its dry move time (R118, R139, R151). -/
def State.dryMoveEnds (s : State) : State :=
  match s.gantry.move with
  | .modelled _ ts => (s.headTakes ts).completeMove
  | .still => s
  | .awaiting _ => s

/-- DRY_MOVE_ELAPSED (R118). -/
def execDryMoveElapsed (s : State) : Host.Outcome State Fault Refusal :=
  s.take State.dryMoveEnds

/-- DRIVE_FAULT_ASSERTED (R153). -/
def execDriveFaultAsserted (axis : Axis) (level : Bool) (s : State) : Host.Outcome State Fault Refusal :=
  s.onLine (s.inputs.withDriveFault axis level) fun s => if level then s.inputFault (driveFaultKind axis) else s

/-- LIMIT_ASSERTED (R153). -/
def execLimitAsserted (level : Bool) (s : State) : Host.Outcome State Fault Refusal :=
  s.onLine (s.inputs.withLimit level) fun s => if level then s.inputFault .limit else s

/-! ## The head -/

/-- The contact sensor becomes asserted (R120): read in SEARCH and in no other phase. -/
def State.contactRises (s : State) (z : Nat) : State :=
  if s.searching then s.contactEvent z else s

/-- CONTACT_ASSERTED (R120). -/
def execContactAsserted (level : Bool) (z : Nat) (s : State) : Host.Outcome State Fault Refusal :=
  s.onLine (s.inputs.withContact level z) fun s => if level then s.contactRises z else s

/-- DROP_FAULT (R126, R153, R156). -/
def execDropFault (level : Bool) (s : State) : Host.Outcome State Fault Refusal :=
  s.onLine (s.inputs.withHoldLost level) fun s => if level then s.holdLost else s

/-- A counter runs: neither stopped nor paused. -/
def Counter.runs : Counter → Bool
  | .running _ => true
  | .stopped => false
  | .paused _ => false

/-- The grip settle counter expires, which it does only while it runs, in GRIP (R123, R124). -/
def State.gripSettles (s : State) (gripLevel : Bool) : State :=
  match s.gantry.state, s.transfer with
  | .cycling, some t => if t.phase = .grip ∧ s.gripCounter.runs then s.gripExpiry t gripLevel else s
  | _, _ => s

/-- GRIP_SETTLE_EXPIRY (R124). -/
def execGripSettleExpiry (gripLevel : Bool) (s : State) : Host.Outcome State Fault Refusal :=
  s.take fun s => s.gripSettles gripLevel

/-- The release settle counter expires, which it does only while it runs, in RELEASE or REJECT_RELEASE (R128, R147). -/
def State.releaseSettles (s : State) : State :=
  match s.gantry.state, s.transfer with
  | .cycling, some t => if t.phase = .release ∧ s.releaseCounter.runs then s.releaseExpiry t else s
  | .aborting, some t => if t.phase = .rejectRelease ∧ s.releaseCounter.runs then s.rejectExpiry else s
  | _, _ => s

/-- RELEASE_SETTLE_EXPIRY (R128, R147). -/
def execReleaseSettleExpiry (s : State) : Host.Outcome State Fault Refusal :=
  s.take State.releaseSettles

/-! ## The lanes -/

/-- A take-over, and the selection attempt it brings when the lane joins the idle queue (R88, R100). -/
def State.takeOverEvent (s : State) (l : LaneNo) : State :=
  if (s.takeOver l).2 then (s.takeOver l).1.reevaluate else (s.takeOver l).1

/-- A spurious TAKEN pulse sets the SPURIOUS flag (R91). -/
def Lane.spurious (v : Lane) : Lane :=
  { v with noteSpurious := true }

/-- TAKEN is sampled outside dry run in OFF and MONITOR (R76). -/
def State.samplesTaken (s : State) (l : LaneNo) : Bool :=
  !s.gantry.dryRun && (s.lane l).cfg.timerMode != .pace

/-- A TAKEN pulse (R76, R88, R91). -/
def State.taken (s : State) (l : LaneNo) : State :=
  if s.samplesTaken l then
    match (s.lane l).state with
    | .handed _ => s.takeOverEvent l
    | .parked => s.setLane l (s.lane l).spurious
    | .idle => s.setLane l (s.lane l).spurious
    | .filling _ => s.setLane l (s.lane l).spurious
  else s

/-- TAKEN_PULSE (R88, R91). -/
def execTakenPulse (lane : LaneNo) (s : State) : Host.Outcome State Fault Refusal :=
  s.take fun s => s.taken lane

/-- SAW-READY rises: a re-evaluation event, unless in dry run, where the part takes the line as high throughout
(R76, R100; log 17). -/
def State.sawRises (s : State) : State :=
  if s.gantry.dryRun then s else s.reevaluate

/-- SAW_READY_RISE (R76). -/
def execSawReadyRise (lane : LaneNo) (s : State) : Host.Outcome State Fault Refusal :=
  s.onLine (s.inputs.withSawReady lane true) State.sawRises

/-- SAW_READY_FALL (R76): only the level changes. -/
def execSawReadyFall (lane : LaneNo) (s : State) : Host.Outcome State Fault Refusal :=
  s.onLine (s.inputs.withSawReady lane false) id

/-- The lane timer expires, which it does only while it runs, in HANDED: a stall in MONITOR outside dry run, else a take-over
(R87, R89, R90). -/
def State.laneTimerExpires (s : State) (l : LaneNo) : State :=
  match (s.lane l).state, (s.lane l).laneTimer with
  | .handed _, some _ =>
    if (s.lane l).cfg.timerMode = .monitor ∧ s.gantry.dryRun = false then s.setLane l (s.lane l).stall
    else s.takeOverEvent l
  | _, _ => s

/-- LANE_TIMER_EXPIRY (R87). -/
def execLaneTimerExpiry (lane : LaneNo) (s : State) : Host.Outcome State Fault Refusal :=
  s.take fun s => s.laneTimerExpires lane

/-- The book-wait timer expires, which it does only while it runs, in FILLING with inbound clear (R85). -/
def State.bookWaitExpires (s : State) (l : LaneNo) : State :=
  if (s.lane l).bookTimer.isSome && !(s.lane l).inbound then s.closeBook l else s

/-- BOOK_WAIT_EXPIRY (R85). -/
def execBookWaitExpiry (lane : LaneNo) (s : State) : Host.Outcome State Fault Refusal :=
  s.take fun s => s.bookWaitExpires lane

/-- The ages when the lane's idle age has reached `ms`: the lanes that joined before it are at least as old (R102,
log 25). -/
def raiseAges (l : LaneNo) (ms : Nat) : List IdleEntry → List IdleEntry
  | [] => []
  | e :: r =>
    { e with age := max e.age ms } :: (if e.lane = l then r else raiseAges l ms r)

/-- A starve crossing of a lane of the idle queue, with S above 0 (R102): a re-evaluation event. -/
def State.crosses (s : State) (l : LaneNo) : State :=
  if 0 < s.modes.starve ∧ s.idleQueue.any (fun e => e.lane == l) then
    ({ s with idleQueue := raiseAges l (msOf s.modes.starve) s.idleQueue } : State).reevaluate
  else s

/-- STARVE_CROSSING (R102). -/
def execStarveCrossing (lane : LaneNo) (s : State) : Host.Outcome State Fault Refusal :=
  s.take fun s => s.crosses lane

/-! ## Time (log 4) -/

/-- A running counter one millisecond later. -/
def Counter.tick : Counter → Counter
  | .running n => .running (n - 1)
  | .stopped => .stopped
  | .paused n => .paused n

/-- A lane's timers one millisecond later. -/
def Lane.tick (v : Lane) : Lane :=
  { v with laneTimer := v.laneTimer.map fun n => n - 1, bookTimer := v.bookTimer.map fun n => n - 1 }

/-- A modelled move one millisecond later. -/
def Move.tick : Move → Move
  | .modelled left ts => .modelled (left - 1) ts
  | .still => .still
  | .awaiting axes => .awaiting axes

/-- One millisecond older in the idle queue (R101). -/
def IdleEntry.tick (e : IdleEntry) : IdleEntry :=
  { e with age := e.age + 1 }

/-- A millisecond with no command waiting: counters, timers and modelled moves run down to zero and idle ages grow; the expiries
themselves are commands. Under the reset pin nothing runs (log 4). -/
def State.tick (s : State) : State :=
  if s.resetHeld then s
  else
    { s.quiet with
      gripCounter := s.gripCounter.tick
      releaseCounter := s.releaseCounter.tick
      lanes := s.lanes.map Lane.tick
      idleQueue := s.idleQueue.map IdleEntry.tick
      gantry := { s.quiet.gantry with move := s.gantry.move.tick } }

end Sys2Proof.Machine
end

