-- ==== Sys2Proof/Machine/LinkEvents.lean ====
section
/-! DEFINITION. The link's own commands: reset, characters, gap, break, sending, the end of a store clearing
(spec/10_the_message_link.md, spec/11_configuration_start_up_and_restart.md R183). -/

namespace Sys2Proof.Machine

/-! ## Reset (R183) -/

/-- The baud code of the two strap levels (R163, R182). -/
def baudCode (strap1 strap0 : Bool) : Nat :=
  (if strap1 then 2 else 0) + (if strap0 then 1 else 0)

/-- The part at its power-on state, with the straps as read and the input lines as they stand (R163, R183; log 7). -/
def State.poweredOn (s : State) (strap1 strap0 : Bool) : State :=
  { State.reset with pending := s.pending, inputs := s.inputs, link := .powerOn (baudCode strap1 strap0) }

/-- POWER_ON_RESET (R183): power-up or the release of the reset pin. -/
def execPowerOnReset (strap1 strap0 : Bool) (s : State) : Host.Outcome State Fault Refusal :=
  .next (s.poweredOn strap1 strap0)

/-- The reset pin goes active: every output inactive, every operation under way abandoned; what the blocks hold stays until
the power-on state is taken (R183; log 7). -/
def State.underReset (s : State) : State :=
  { s with
    resetHeld := true
    link := { s.link with tx := none }
    valves := 0
    blowOff := false
    gripCounter := .stopped
    releaseCounter := .stopped
    gantry := { s.gantry with move := .still, driveOut := [] } }

/-- RESET_PIN_ASSERTED (R183). -/
def execResetPinAsserted (s : State) : Host.Outcome State Fault Refusal :=
  .next s.underReset

/-! ## The receiver (R166, R167) -/

/-- CHARACTER_RECEIVED (R166). -/
def execCharacterReceived (value : Byte) (parityOk : Bool) (s : State) (z : Nat := 0) : Host.Outcome State Fault Refusal :=
  s.take fun s => s.takeCharacter value parityOk z

/-- The gap timer runs only while assembling (R166). -/
def State.gapExpires (s : State) : State :=
  match s.link.rx with
  | .hunting => s
  | .assembling _ => s.dropFrame .gap

/-- GAP_TIMER_EXPIRY (R166). -/
def execGapTimerExpiry (s : State) : Host.Outcome State Fault Refusal :=
  s.take State.gapExpires

/-- LINE_BREAK (R167): BREAK is recorded and the receiver hunts, whether it was assembling or not. -/
def execLineBreak (s : State) : Host.Outcome State Fault Refusal :=
  s.take fun s => s.dropFrame .break

/-! ## The clearing and its reply (R171) -/

/-- STORE_CLEARING_END (R4, R6, R7, R171). -/
def execStoreClearingEnd (s : State) : Host.Outcome State Fault Refusal :=
  s.take State.clearingEnds

/-- WAITING_REPLY_PLACED (R171). -/
def execWaitingReplyPlaced (s : State) : Host.Outcome State Fault Refusal :=
  s.take State.placeWaiting

/-! ## Sending (R175) -/

/-- The level of HOST-READY. -/
def Inputs.withHostReady (i : Inputs) (level : Bool) : Inputs :=
  { i with hostReady := level }

/-- HOST_READY_ASSERTED (R175): the level is what the next start samples; a frame being sent goes on. -/
def execHostReadyAsserted (level : Bool) (s : State) : Host.Outcome State Fault Refusal :=
  .next { s.quiet with inputs := s.inputs.withHostReady level }

/-- FRAME_START (R175, R176). -/
def execFrameStart (s : State) (z : Nat := 0) : Host.Outcome State Fault Refusal :=
  s.take fun s => s.startFrame z

/-- The transmitter ends the frame it sends (R175). -/
def State.endFrame (s : State) : State :=
  s.setLink { s.link with tx := none }

/-- FRAME_SENT (R175). -/
def execFrameSent (s : State) : Host.Outcome State Fault Refusal :=
  s.take State.endFrame

end Sys2Proof.Machine
end

