-- ==== Sys2Proof/Machine/Requests.lean ====
section
/-! DEFINITION. The request commands: a request frame of each kind completes at the receiver (log 1). What the owning block
makes of it, once the decoder takes it, is the kind's `answer...` definition. -/

namespace Sys2Proof.Machine

/-- A frame of this kind arrives whole (R168, log 1). Only RESUME reads a position report at its taking (R120), and its
command brings that report along; for the other kinds the last report stands, unread (log 5). -/
def State.frameArrives (s : State) (k : RequestKind) (body : Body) : State :=
  s.requestArrives { kind := k.code, body := body } s.inputs.zReport

/-- A frame of a kind outside 0x01..0x22 arrives; the decoder answers it UNKNOWN_KIND (R170). -/
def execUnknownKindRequest (kind : Byte) (body : Body) (s : State) : Host.Outcome State Fault Refusal :=
  s.take fun s => s.requestArrives { kind := kind, body := body } s.inputs.zReport

/-- QUERY STATUS (R174). -/
def execQueryStatus (body : Body) (s : State) : Host.Outcome State Fault Refusal :=
  s.take fun s => s.frameArrives .queryStatus body

/-- READ FAULT (R159). -/
def execReadFault (body : Body) (s : State) : Host.Outcome State Fault Refusal :=
  s.take fun s => s.frameArrives .readFault body

/-- SET MODES (R179). -/
def execSetModes (body : Body) (s : State) : Host.Outcome State Fault Refusal :=
  s.take fun s => s.frameArrives .setModes body

/-- SET TRAVEL (R180). -/
def execSetTravel (body : Body) (s : State) : Host.Outcome State Fault Refusal :=
  s.take fun s => s.frameArrives .setTravel body

/-- READ CONFIG (R182). -/
def execReadConfig (body : Body) (s : State) : Host.Outcome State Fault Refusal :=
  s.take fun s => s.frameArrives .readConfig body

/-- PARTITION STORE (R3, R4). -/
def execPartitionStore (body : Body) (s : State) : Host.Outcome State Fault Refusal :=
  s.take fun s => s.frameArrives .partitionStore body

/-- RESTART (R184). -/
def execRestart (body : Body) (s : State) : Host.Outcome State Fault Refusal :=
  s.take fun s => s.frameArrives .restart body

/-- DEFINE TYPE (R10). -/
def execDefineType (body : Body) (s : State) : Host.Outcome State Fault Refusal :=
  s.take fun s => s.frameArrives .defineType body

/-- DROP TYPE (R12). -/
def execDropType (body : Body) (s : State) : Host.Outcome State Fault Refusal :=
  s.take fun s => s.frameArrives .dropType body

/-- SET TYPE CURSOR (R14). -/
def execSetTypeCursor (body : Body) (s : State) : Host.Outcome State Fault Refusal :=
  s.take fun s => s.frameArrives .setTypeCursor body

/-- READ TYPES (R15). -/
def execReadTypes (body : Body) (s : State) : Host.Outcome State Fault Refusal :=
  s.take fun s => s.frameArrives .readTypes body

/-- ENQUEUE JOB (R23, R24). -/
def execEnqueueJob (body : Body) (s : State) : Host.Outcome State Fault Refusal :=
  s.take fun s => s.frameArrives .enqueueJob body

/-- AMEND JOB (R25, R26). -/
def execAmendJob (body : Body) (s : State) : Host.Outcome State Fault Refusal :=
  s.take fun s => s.frameArrives .amendJob body

/-- CANCEL JOB (R28, R29). -/
def execCancelJob (body : Body) (s : State) : Host.Outcome State Fault Refusal :=
  s.take fun s => s.frameArrives .cancelJob body

/-- READ JOB (R38). -/
def execReadJob (body : Body) (s : State) : Host.Outcome State Fault Refusal :=
  s.take fun s => s.frameArrives .readJob body

/-- SET LIST CURSOR (R39). -/
def execSetListCursor (body : Body) (s : State) : Host.Outcome State Fault Refusal :=
  s.take fun s => s.frameArrives .setListCursor body

/-- LIST JOBS (R40). -/
def execListJobs (body : Body) (s : State) : Host.Outcome State Fault Refusal :=
  s.take fun s => s.frameArrives .listJobs body

/-- SET STACK (R43). -/
def execSetStack (body : Body) (s : State) : Host.Outcome State Fault Refusal :=
  s.take fun s => s.frameArrives .setStack body

/-- LOAD STACK (R45, R46). -/
def execLoadStack (body : Body) (s : State) : Host.Outcome State Fault Refusal :=
  s.take fun s => s.frameArrives .loadStack body

/-- UNLOAD STACK (R48). -/
def execUnloadStack (body : Body) (s : State) : Host.Outcome State Fault Refusal :=
  s.take fun s => s.frameArrives .unloadStack body

/-- READ STACKS (R53). -/
def execReadStacks (body : Body) (s : State) : Host.Outcome State Fault Refusal :=
  s.take fun s => s.frameArrives .readStacks body

/-- SET LANE (R74). -/
def execSetLane (body : Body) (s : State) : Host.Outcome State Fault Refusal :=
  s.take fun s => s.frameArrives .setLane body

/-- PARK LANE (R92). -/
def execParkLane (body : Body) (s : State) : Host.Outcome State Fault Refusal :=
  s.take fun s => s.frameArrives .parkLane body

/-- UNPARK LANE (R93). -/
def execUnparkLane (body : Body) (s : State) : Host.Outcome State Fault Refusal :=
  s.take fun s => s.frameArrives .unparkLane body

/-- CLOSE BOOK (R86). -/
def execCloseBook (body : Body) (s : State) : Host.Outcome State Fault Refusal :=
  s.take fun s => s.frameArrives .closeBook body

/-- READ LANE (R95). -/
def execReadLane (body : Body) (s : State) : Host.Outcome State Fault Refusal :=
  s.take fun s => s.frameArrives .readLane body

/-- HOME (R138). -/
def execHome (body : Body) (s : State) : Host.Outcome State Fault Refusal :=
  s.take fun s => s.frameArrives .home body

/-- RUN (R98). -/
def execRun (body : Body) (s : State) : Host.Outcome State Fault Refusal :=
  s.take fun s => s.frameArrives .run body

/-- HOLD (R98). -/
def execHold (body : Body) (s : State) : Host.Outcome State Fault Refusal :=
  s.take fun s => s.frameArrives .hold body

/-- HALT (R141). -/
def execHalt (body : Body) (s : State) : Host.Outcome State Fault Refusal :=
  s.take fun s => s.frameArrives .halt body

/-- RESUME (R143). -/
def execResume (body : Body) (s : State) (z : Nat := 0) : Host.Outcome State Fault Refusal :=
  s.take fun s => s.requestArrives { kind := RequestKind.resume.code, body := body } z

/-- ABORT (R145). -/
def execAbort (body : Body) (s : State) : Host.Outcome State Fault Refusal :=
  s.take fun s => s.frameArrives .abort body

/-- CLEAR FAULT (R161). -/
def execClearFault (body : Body) (s : State) : Host.Outcome State Fault Refusal :=
  s.take fun s => s.frameArrives .clearFault body

/-- RELEASE HELD (R160). -/
def execReleaseHeld (body : Body) (s : State) : Host.Outcome State Fault Refusal :=
  s.take fun s => s.frameArrives .releaseHeld body

end Sys2Proof.Machine
end

