-- ==== Sys2Proof/Machine/Dispatch.lean ====
section
/-! DEFINITION. One arm per command; each calls the command's own meaning. -/

namespace Sys2Proof.Machine

def exec (i : Instr) (s : State) : Host.Outcome State Fault Refusal :=
  match i with
  | .powerOnReset strap1 strap0 => Sys2Proof.Machine.execPowerOnReset strap1 strap0 s
  | .characterReceived value parityOk z => Sys2Proof.Machine.execCharacterReceived value parityOk s z
  | .gapTimerExpiry => Sys2Proof.Machine.execGapTimerExpiry s
  | .lineBreak => Sys2Proof.Machine.execLineBreak s
  | .unknownKindRequest kind body => Sys2Proof.Machine.execUnknownKindRequest kind body s
  | .queryStatus body => Sys2Proof.Machine.execQueryStatus body s
  | .readFault body => Sys2Proof.Machine.execReadFault body s
  | .setModes body => Sys2Proof.Machine.execSetModes body s
  | .setTravel body => Sys2Proof.Machine.execSetTravel body s
  | .readConfig body => Sys2Proof.Machine.execReadConfig body s
  | .partitionStore body => Sys2Proof.Machine.execPartitionStore body s
  | .restart body => Sys2Proof.Machine.execRestart body s
  | .storeClearingEnd => Sys2Proof.Machine.execStoreClearingEnd s
  | .waitingReplyPlaced => Sys2Proof.Machine.execWaitingReplyPlaced s
  | .defineType body => Sys2Proof.Machine.execDefineType body s
  | .dropType body => Sys2Proof.Machine.execDropType body s
  | .setTypeCursor body => Sys2Proof.Machine.execSetTypeCursor body s
  | .readTypes body => Sys2Proof.Machine.execReadTypes body s
  | .enqueueJob body => Sys2Proof.Machine.execEnqueueJob body s
  | .amendJob body => Sys2Proof.Machine.execAmendJob body s
  | .cancelJob body => Sys2Proof.Machine.execCancelJob body s
  | .readJob body => Sys2Proof.Machine.execReadJob body s
  | .setListCursor body => Sys2Proof.Machine.execSetListCursor body s
  | .listJobs body => Sys2Proof.Machine.execListJobs body s
  | .setStack body => Sys2Proof.Machine.execSetStack body s
  | .loadStack body => Sys2Proof.Machine.execLoadStack body s
  | .unloadStack body => Sys2Proof.Machine.execUnloadStack body s
  | .readStacks body => Sys2Proof.Machine.execReadStacks body s
  | .setLane body => Sys2Proof.Machine.execSetLane body s
  | .parkLane body => Sys2Proof.Machine.execParkLane body s
  | .unparkLane body => Sys2Proof.Machine.execUnparkLane body s
  | .closeBook body => Sys2Proof.Machine.execCloseBook body s
  | .readLane body => Sys2Proof.Machine.execReadLane body s
  | .home body => Sys2Proof.Machine.execHome body s
  | .run body => Sys2Proof.Machine.execRun body s
  | .hold body => Sys2Proof.Machine.execHold body s
  | .halt body => Sys2Proof.Machine.execHalt body s
  | .resume body z => Sys2Proof.Machine.execResume body s z
  | .abort body => Sys2Proof.Machine.execAbort body s
  | .clearFault body => Sys2Proof.Machine.execClearFault body s
  | .releaseHeld body => Sys2Proof.Machine.execReleaseHeld body s
  | .starveCrossing lane => Sys2Proof.Machine.execStarveCrossing lane s
  | .hostReadyAsserted level => Sys2Proof.Machine.execHostReadyAsserted level s
  | .frameStart z => Sys2Proof.Machine.execFrameStart s z
  | .frameSent => Sys2Proof.Machine.execFrameSent s
  | .safetyLineAsserted => Sys2Proof.Machine.execSafetyLineAsserted s
  | .safetyLineReleased => Sys2Proof.Machine.execSafetyLineReleased s
  | .inPositionReport axis stale z => Sys2Proof.Machine.execInPositionReport axis stale z s
  | .dryMoveElapsed => Sys2Proof.Machine.execDryMoveElapsed s
  | .homedReport axis stale => Sys2Proof.Machine.execHomedReport axis stale s
  | .contactAsserted level z => Sys2Proof.Machine.execContactAsserted level z s
  | .gripSettleExpiry gripLevel => Sys2Proof.Machine.execGripSettleExpiry gripLevel s
  | .releaseSettleExpiry => Sys2Proof.Machine.execReleaseSettleExpiry s
  | .dropFault level => Sys2Proof.Machine.execDropFault level s
  | .driveFaultAsserted axis level => Sys2Proof.Machine.execDriveFaultAsserted axis level s
  | .limitAsserted level => Sys2Proof.Machine.execLimitAsserted level s
  | .takenPulse lane => Sys2Proof.Machine.execTakenPulse lane s
  | .sawReadyRise lane => Sys2Proof.Machine.execSawReadyRise lane s
  | .sawReadyFall lane => Sys2Proof.Machine.execSawReadyFall lane s
  | .laneTimerExpiry lane => Sys2Proof.Machine.execLaneTimerExpiry lane s
  | .bookWaitExpiry lane => Sys2Proof.Machine.execBookWaitExpiry lane s
  | .resetPinAsserted => Sys2Proof.Machine.execResetPinAsserted s

end Sys2Proof.Machine
end

