-- ==== Sys2Proof/WellFormed.lean ====
section
/-! DEFINITION. Which commands can be sent: the limits the manual puts on a command's operands. -/

namespace Sys2Proof

/-- A request frame's length byte is 0..56 (R164). -/
def Body.fits (b : Body) : Bool :=
  b.payload.length ≤ 56

/-- A drive's position report on Z is a position of 2 bytes (R165). -/
def zFits (z : Nat) : Bool :=
  z < 65536

/-- The request kinds are 0x01..0x22 (R164, R165). -/
def kindKnown (kind : Byte) : Bool :=
  1 ≤ kind.toNat && kind.toNat ≤ 0x22

/-- The well-formed commands: request payloads fit a frame (R164), UNKNOWN_KIND_REQUEST carries a kind outside
0x01..0x22 (R170), position reports are 2-byte positions (R165). -/
def Instr.wf : Instr → Bool
  | .powerOnReset _ _ => true
  | .characterReceived _ _ z => zFits z
  | .gapTimerExpiry => true
  | .lineBreak => true
  | .unknownKindRequest kind body => body.fits && !kindKnown kind
  | .queryStatus body => body.fits
  | .readFault body => body.fits
  | .setModes body => body.fits
  | .setTravel body => body.fits
  | .readConfig body => body.fits
  | .partitionStore body => body.fits
  | .restart body => body.fits
  | .storeClearingEnd => true
  | .waitingReplyPlaced => true
  | .defineType body => body.fits
  | .dropType body => body.fits
  | .setTypeCursor body => body.fits
  | .readTypes body => body.fits
  | .enqueueJob body => body.fits
  | .amendJob body => body.fits
  | .cancelJob body => body.fits
  | .readJob body => body.fits
  | .setListCursor body => body.fits
  | .listJobs body => body.fits
  | .setStack body => body.fits
  | .loadStack body => body.fits
  | .unloadStack body => body.fits
  | .readStacks body => body.fits
  | .setLane body => body.fits
  | .parkLane body => body.fits
  | .unparkLane body => body.fits
  | .closeBook body => body.fits
  | .readLane body => body.fits
  | .home body => body.fits
  | .run body => body.fits
  | .hold body => body.fits
  | .halt body => body.fits
  | .resume body z => body.fits && zFits z
  | .abort body => body.fits
  | .clearFault body => body.fits
  | .releaseHeld body => body.fits
  | .starveCrossing _ => true
  | .hostReadyAsserted _ => true
  | .frameStart z => zFits z
  | .frameSent => true
  | .safetyLineAsserted => true
  | .safetyLineReleased => true
  | .inPositionReport _ _ z => zFits z
  | .dryMoveElapsed => true
  | .homedReport _ _ => true
  | .contactAsserted _ z => zFits z
  | .gripSettleExpiry _ => true
  | .releaseSettleExpiry => true
  | .dropFault _ => true
  | .driveFaultAsserted _ _ => true
  | .limitAsserted _ => true
  | .takenPulse _ => true
  | .sawReadyRise _ => true
  | .sawReadyFall _ => true
  | .laneTimerExpiry _ => true
  | .bookWaitExpiry _ => true
  | .resetPinAsserted => true

end Sys2Proof
end

