-- ==== Sys2Proof/Safety.lean ====
section
/-! DEFINITION. The terms the statements are made in: when the part takes a request at once, what a reply leaves, and the
invariants of a sound run. -/

namespace Sys2Proof.Machine

/-! ## Requests and replies -/

/-- The command of a request kind; `z` is the Z drive's position report, which RESUME alone carries (log 5). -/
def requestCommand (k : RequestKind) (b : Body) (z : Nat) : Instr :=
  match k with
  | .queryStatus => .queryStatus b
  | .readFault => .readFault b
  | .setModes => .setModes b
  | .setTravel => .setTravel b
  | .readConfig => .readConfig b
  | .partitionStore => .partitionStore b
  | .restart => .restart b
  | .defineType => .defineType b
  | .dropType => .dropType b
  | .setTypeCursor => .setTypeCursor b
  | .readTypes => .readTypes b
  | .enqueueJob => .enqueueJob b
  | .amendJob => .amendJob b
  | .cancelJob => .cancelJob b
  | .readJob => .readJob b
  | .setListCursor => .setListCursor b
  | .listJobs => .listJobs b
  | .setStack => .setStack b
  | .loadStack => .loadStack b
  | .unloadStack => .unloadStack b
  | .readStacks => .readStacks b
  | .setLane => .setLane b
  | .parkLane => .parkLane b
  | .unparkLane => .unparkLane b
  | .closeBook => .closeBook b
  | .readLane => .readLane b
  | .home => .home b
  | .run => .run b
  | .hold => .hold b
  | .halt => .halt b
  | .resume => .resume b z
  | .abort => .abort b
  | .clearFault => .clearFault b
  | .releaseHeld => .releaseHeld b

/-- Outside reset the decoder takes a frame the moment it completes: none held, the slot empty, no reply waiting (R170). -/
def State.takesAtOnce (s : State) : Prop :=
  s.resetHeld = false ∧ s.link.held = none ∧ s.link.slot = none ∧ s.waiting = none

/-- The owning block decides a frame the moment it completes (R170). -/
def State.ready (s : State) : Prop :=
  s.takesAtOnce ∧ s.decoder = .ready

/-- The state with a reply in the slot: the request's kind with bit 7 set, its tag, the result, the payload and, when bit 0 of
the flags is set, the 10-byte summary; a summary clears the last link error kind and job-notice-lost (R170, R173). -/
def State.withReply (s : State) (kind : Byte) (b : Body) (r : Result) (payload : List Byte) : State :=
  let asked := b.flags.getLsbD 0
  { s with
    link := { s.link with
      slot := some { kind := kind ||| 0x80, tag := b.tag, result := r.code,
                     payload := payload ++ (if asked then s.summary else []) }
      lastError := if asked then .none else s.link.lastError }
    notices := { s.notices with lost := !asked && s.notices.lost } }

/-- The characters of a list, each with good parity and the Z drive at `z`, one CHARACTER_RECEIVED after the other. -/
def feed (z : Nat) : List Byte → State → Host.Outcome State Fault Refusal
  | [], s => .next s
  | v :: r, s =>
    match exec (.characterReceived v true z) s with
    | .next t => feed z r t
    | .fault e => .fault e
    | .refused e => .refused e

/-! ## Invariants -/

/-- A value lies in a range, as a proposition. -/
def Between (lo hi v : Nat) : Prop :=
  lo ≤ v ∧ v ≤ hi

/-- The stored ranges of the SET MODES settings (R179). -/
structure Modes.InRange (m : Modes) : Prop where
  window : Between 1 16 m.window
  starve : Between 0 600 m.starve
  dryMove : Between 50 5000 m.dryMove
  settle1 : Between 50 2000 m.settle1
  settle2 : Between 50 2000 m.settle2
  settle3 : Between 50 2000 m.settle3
  settle4 : Between 50 2000 m.settle4
  release : Between 20 500 m.release
  contactTol : Between 10 200 m.contactTol
  clampTol : Between 0 50 m.clampTol

/-- What SET TRAVEL keeps of its settings (R180, checks 2, 3 and 6). -/
structure Travel.InRange (t : Travel) : Prop where
  x : t.xMin < t.xMax ∧ t.xMax ≤ 65000
  y : t.yMin < t.yMax ∧ t.yMax ≤ 30000
  z : t.zMin < t.zMax ∧ t.zMax ≤ 25000
  ztravel : Between t.zMin t.zMax t.ztravel
  station : Between t.xMin t.xMax t.xr ∧ Between t.yMin t.yMax t.yr ∧ Between t.zMin t.zMax t.zr
  clearance : t.zr + 1000 ≤ t.ztravel

/-- The counts and settings stay in the ranges the manual gives them (R157, R158, R178, R179, R180). -/
structure State.InRanges (s : State) : Prop where
  modes : s.modes.InRange
  travel : s.travel.InRange
  fifo : s.notices.fifo.length ≤ 16
  further : ∀ e, s.fault.entry = some e → e.further ≤ 15
  report : s.fault.reportCount ≤ 15

/-- The gantry is in FAULT exactly while the fault entry is present (R154). -/
def State.FaultExact (s : State) : Prop :=
  s.gantry.state = .fault ↔ s.fault.entry.isSome = true

/-- The store is in its canonical form, no two entries carry the same tag, and the head of the list is live (R1, R21, R22,
R36). -/
structure State.StoreExact (s : State) : Prop where
  form : s.store.wf = true
  tags : (s.store.jobs.entries.map Job.tag).Nodup
  head : ∀ j ∈ s.store.jobs.entries.head?, j.live = true

/-- The decoder takes a held frame as soon as it can, so a frame is held only behind a reply, and a reply waits only while the
decoder is PARTITIONING or RESTARTING (R170, R171). -/
structure State.LinkExact (s : State) : Prop where
  held : s.link.held.isSome = true → s.link.slot.isSome = true ∨ s.waiting.isSome = true
  waiting : s.waiting.isSome = true → s.decoder ≠ .ready ∧ s.decoder ≠ .starting

/-- The service lists hold exactly the lanes that belong in them, each once (R79); a PARKED lane carries no park-request
(R75); a lane that is not PARKED is configured, since only UNPARK LANE brings a lane out of PARKED (R93). -/
structure State.ListsExact (s : State) : Prop where
  idle : ∀ l, l ∈ s.idleQueue.map IdleEntry.lane ↔ (s.lane l).state = .idle ∧ (s.lane l).parkRequest = false
  filling : ∀ l, l ∈ s.fillingOrder ↔ ∃ b, (s.lane l).state = .filling b
  idleOnce : (s.idleQueue.map IdleEntry.lane).Nodup
  fillingOnce : s.fillingOrder.Nodup
  parked : ∀ l, (s.lane l).state = .parked → (s.lane l).parkRequest = false
  configured : ∀ l, (s.lane l).state ≠ .parked → (s.lane l).configured = true

/-- The phases of a CYCLING gantry (R115). -/
def Phase.ofTransfer (p : Phase) : Bool :=
  match p with
  | .toStack => true
  | .search => true
  | .grip => true
  | .lift => true
  | .toLane => true
  | .lower => true
  | .release => true
  | .rise => true
  | .retreat => true
  | .toReject => false
  | .rejectLower => false
  | .rejectRelease => false
  | .rejectRise => false

/-- Gantry, record, held flag and valves agree (R99, R115, R116, R117, R155): a CYCLING or ABORTING gantry, or one halted out
of these, has a record in one of its phases; an UNHOMED, HOMING or IDLE gantry has none; held is set only in a carry phase; a
valve is open only on the record's mask, with held set or in GRIP, and in FAULT only with held set. -/
structure State.RecordExact (s : State) : Prop where
  cycling : s.gantry.state = .cycling ∨ s.gantry.state = .halted .cycling →
    ∃ t, s.transfer = some t ∧ t.phase.ofTransfer = true
  aborting : s.gantry.state = .aborting ∨ s.gantry.state = .halted .aborting →
    ∃ t, s.transfer = some t ∧ t.phase.ofTransfer = false
  atRest : s.transfer.isSome = true → s.gantry.state = .fault ∨ s.gantry.state = .cycling ∨ s.gantry.state = .aborting ∨
    s.gantry.state = .halted .cycling ∨ s.gantry.state = .halted .aborting
  held : ∀ t, s.transfer = some t → t.held = true → t.phase.carries = true
  valves : s.valves ≠ 0 → ∃ t, s.transfer = some t ∧ s.valves = t.mask ∧ (t.held = true ∨ t.phase = .grip)
  fault : s.gantry.state = .fault → s.valves ≠ 0 → s.holding = true

/-- A motion command: a target or a home command, not a stop (8.2). -/
def DriveCommand.isMotion : DriveCommand → Bool
  | .target _ => true
  | .home _ => true
  | .stop _ => false

end Sys2Proof.Machine
end

