-- ==== Sys2Proof/Certificates/Slice0/Obligations.lean ====
section
/-! DEFINITION. The statements for the provers. Each docstring names the rules of spec/ it formalises; where a clause is the
model's own choice it names the log entry. `s.quiet` is `s` with the drive ports cleared: they carry the commands of the latest
command only (log 16). -/

open Sys2Proof Sys2Proof.Machine

/-! ## The queue and time -/

/-- A step runs the command at the front of the queue, with the queue's rest (log 1). -/
def Obligations.StepTakesTheFrontCommand : Prop :=
  ∀ (c : Instr) (q : List Instr) (s : State), s.pending = c :: q → step s = exec c { s with pending := q }

/-- With no command waiting a step is one millisecond: running counters, timers and modelled moves run down, idle ages grow, the
drive ports carry nothing and nothing else changes; under the reset pin nothing changes at all (the model's choice, log 4). -/
def Obligations.IdleStepIsAMillisecond : Prop :=
  ∀ s : State, s.pending = [] →
    (s.resetHeld = true → step s = .next s) ∧
    (s.resetHeld = false → ∃ t, step s = .next t ∧
      t = { s with
            gripCounter := t.gripCounter, releaseCounter := t.releaseCounter, lanes := t.lanes, idleQueue := t.idleQueue,
            gantry := { s.gantry with driveOut := [], move := t.gantry.move } } ∧
      (∀ n, s.gripCounter = .running n → t.gripCounter = .running (n - 1)) ∧
      ((∀ n, s.gripCounter ≠ .running n) → t.gripCounter = s.gripCounter) ∧
      (∀ n, s.releaseCounter = .running n → t.releaseCounter = .running (n - 1)) ∧
      ((∀ n, s.releaseCounter ≠ .running n) → t.releaseCounter = s.releaseCounter) ∧
      (∀ l, t.lane l = { s.lane l with laneTimer := (s.lane l).laneTimer.map fun n => n - 1,
                                       bookTimer := (s.lane l).bookTimer.map fun n => n - 1 }) ∧
      t.idleQueue = s.idleQueue.map (fun e => { lane := e.lane, age := e.age + 1 }) ∧
      (∀ n ts, s.gantry.move = .modelled n ts → t.gantry.move = .modelled (n - 1) ts) ∧
      ((∀ n ts, s.gantry.move ≠ .modelled n ts) → t.gantry.move = s.gantry.move))

/-- No command ever stops the part: every command in every state answers a next state, and leaves the queue to the step. -/
def Obligations.EveryCommandCompletes : Prop :=
  ∀ (c : Instr) (s : State), ∃ t, exec c s = .next t ∧ t.pending = s.pending

/-! ## Reset -/

/-- POWER_ON_RESET in any state puts every block in its power-on state (R6, R41, R54, R96, R98, R112, R114, R136, R162, R163,
R179, R180). The input lines keep their levels and the store is held as already cleared (the model's choices, log 6, log 7). -/
def Obligations.PowerOnResetSetsEveryBlock : Prop :=
  ∀ (strap1 strap0 : Bool) (s : State), ∃ t, exec (.powerOnReset strap1 strap0) s = .next t ∧
    t.resetHeld = false ∧ t.inputs = s.inputs ∧ t.decoder = .starting ∧ t.waiting = none ∧
    t.link = { rx := .hunting, held := none, slot := none, tx := none, lastError := .none,
               baud := match strap1, strap0 with
                 | false, false => 0
                 | false, true => 1
                 | true, false => 2
                 | true, true => 3 } ∧
    t.store = { partition := .p1, types := [], typeCursor := 0, listCursor := 0, jobs := { start := 0, entries := [] } } ∧
    (∀ k, t.stack k = { geometrySet := false, xs := 0, ys := 0, zf := 0, present := false, type := 0, count := 0,
                        suspect := false, emptyFlag := false, suspectFlag := false }) ∧
    (∀ l, (t.lane l).configured = false ∧ (t.lane l).state = .parked ∧ (t.lane l).parkRequest = false ∧
      (t.lane l).inbound = false ∧ (t.lane l).closePending = false ∧ (t.lane l).stalled = false ∧
      (t.lane l).laneTimer = none ∧ (t.lane l).bookTimer = none ∧ (t.lane l).noteHanded = false ∧
      (t.lane l).noteParked = false ∧ (t.lane l).noteStalled = false ∧ (t.lane l).noteSpurious = false ∧
      (t.lane l).report = none ∧
      (t.lane l).cfg = { xf := 0, yf := 0, sx := .plus, sy := .plus, lt := 0, wt := 0, zt := 0, hmax := 0, countLimit := 1,
                         timerMode := .off, timerTime := 1, bookWait := 0 }) ∧
    t.idleQueue = [] ∧ t.fillingOrder = [] ∧ t.runMode = .hold ∧
    t.transfer = none ∧ t.gripCounter = .stopped ∧ t.releaseCounter = .stopped ∧ t.valves = 0 ∧ t.blowOff = false ∧
    t.gantry = { state := .unhomed, dryRun := false, head := none, lastX := 0, lastY := 0, lastZ := 0, noteHomed := false,
                 noteHalted := false, move := .still, driveOut := [] } ∧
    t.fault = { entry := none, note := false, reportKind := none, reportCount := 0 } ∧
    t.notices = { fifo := [], lost := false } ∧
    t.modes = { rounding := .towardDatum, window := 8, starve := 0, dryMove := 500, settle1 := 150, settle2 := 250,
                settle3 := 400, settle4 := 600, release := 80, contactTol := 60, clampTol := 20 } ∧
    t.travel = { xMin := 0, xMax := 65000, yMin := 0, yMax := 30000, zMin := 0, zMax := 25000, ztravel := 20000, xr := 0,
                 yr := 0, zr := 0 }

/-- RESET_PIN_ASSERTED drives every output inactive, and while the pin is held no command is taken (R183): only the wires'
levels may differ afterwards. What the blocks hold under reset, and that the safety line's level is followed there, are the
model's choices (log 7). Outside reset the outputs are the registers' values, and none in dry run (R76, R117). -/
def Obligations.ResetPinSilencesThePart : Prop :=
  (∀ s : State, ∃ t, exec .resetPinAsserted s = .next t ∧ t.resetHeld = true ∧ t.valveOutputs = 0 ∧
    t.blowOffOutput = false ∧ (∀ l, t.bookReady l = false) ∧ t.link.tx = none ∧ t.gantry.driveOut = [] ∧
    t.gantry.move = .still ∧ t.gripCounter = .stopped ∧ t.releaseCounter = .stopped) ∧
  (∀ (c : Instr) (s : State), s.resetHeld = true → (∀ a b, c ≠ .powerOnReset a b) → c ≠ .resetPinAsserted →
    ∃ i, exec c s = .next { s.quiet with inputs := i }) ∧
  (∀ s : State, s.resetHeld = true →
    exec .safetyLineAsserted s = .next { s.quiet with inputs := { s.inputs with safety := true } } ∧
    exec .safetyLineReleased s = .next { s.quiet with inputs := { s.inputs with safety := false } }) ∧
  (∀ s : State, s.valveOutputs = (if s.gantry.dryRun = true ∨ s.resetHeld = true then 0 else s.valves) ∧
    (s.blowOffOutput = true ↔ s.gantry.dryRun = false ∧ s.resetHeld = false ∧ s.blowOff = true) ∧
    ∀ l, s.bookReady l = true ↔ s.gantry.dryRun = false ∧ s.resetHeld = false ∧ ∃ bk, (s.lane l).state = .handed bk)

/-! ## The receiver and the decoder -/

/-- Every character, gap and break (R166, R167): what the receiver becomes and which error it records; a character that
completes a good frame is the subject of CharactersOfAFrameAreTheRequest. -/
def Obligations.ReceiverFollowsItsStates : Prop :=
  ∀ (s : State) (v : Byte) (z : Nat), s.resetHeld = false →
    (exec .lineBreak s = .next { s.quiet with link := { s.link with rx := .hunting, lastError := .break } }) ∧
    (s.link.rx = .hunting →
      exec .gapTimerExpiry s = .next s.quiet ∧
      exec (.characterReceived v false z) s = .next s.quiet ∧
      exec (.characterReceived v true z) s =
        .next (if v = 0xA6 then { s.quiet with link := { s.link with rx := .assembling [v] } } else s.quiet)) ∧
    (∀ bs, s.link.rx = .assembling bs →
      exec .gapTimerExpiry s = .next { s.quiet with link := { s.link with rx := .hunting, lastError := .gap } } ∧
      exec (.characterReceived v false z) s =
        .next { s.quiet with link := { s.link with rx := .hunting, lastError := .parity } } ∧
      (bs.length = 1 → 56 < v.toNat → exec (.characterReceived v true z) s =
        .next { s.quiet with link := { s.link with rx := .hunting, lastError := .length } }) ∧
      (bs.length = 1 → v.toNat ≤ 56 → exec (.characterReceived v true z) s =
        .next { s.quiet with link := { s.link with rx := .assembling (bs ++ [v]) } }) ∧
      (2 ≤ bs.length → bs.length < u8 bs 1 + 5 → exec (.characterReceived v true z) s =
        .next { s.quiet with link := { s.link with rx := .assembling (bs ++ [v]) } }) ∧
      (2 ≤ bs.length → bs.length = u8 bs 1 + 5 → byteSum (bs ++ [v]) ≠ 0 → exec (.characterReceived v true z) s =
        .next { s.quiet with link := { s.link with rx := .hunting, lastError := .check } }))

/-- Received by a hunting receiver one good character after the other, the bytes of a frame of R164 (start byte, length, kind,
tag, flags, payload, and the check byte that makes their sum a multiple of 256) have the effect of the request command itself,
whatever the state (R164, R166, R168). That a request command is the arrival of its whole frame is the model's choice (log 1),
that UNKNOWN_KIND_REQUEST with a known kind is the request of that kind its reading (log 21), and the Z drive's report `z` an
operand of these commands (log 5). -/
def Obligations.CharactersOfAFrameAreTheRequest : Prop :=
  (∀ (kind b3 b4 : Byte) (payload : List Byte), ∃ check : Byte,
    frameBytes kind b3 b4 payload = [0xA6, BitVec.ofNat 8 payload.length, kind, b3, b4] ++ payload ++ [check] ∧
    ((frameBytes kind b3 b4 payload).map BitVec.toNat).sum % 256 = 0) ∧
  (∀ (s : State) (tag flags : Byte) (payload : List Byte) (z : Nat), s.link.rx = .hunting → payload.length ≤ 56 →
    (∀ k : RequestKind, feed z (frameBytes k.code tag flags payload) s =
      exec (requestCommand k { tag := tag, flags := flags, payload := payload } z) s) ∧
    (∀ kind : Byte, (kind = 0x1F → s.inputs.zReport = z) → feed z (frameBytes kind tag flags payload) s =
      exec (.unknownKindRequest kind { tag := tag, flags := flags, payload := payload }) s))

/-- While the decoder cannot take a frame, a frame that completes is held, and one that completes behind a held frame is
discarded with OVERRUN; nothing else changes (R168, R169, R170). -/
def Obligations.FrameIsHeldOrOverruns : Prop :=
  ∀ (k : RequestKind) (b : Body) (z : Nat) (s : State), s.resetHeld = false → b.fits = true →
    (s.link.held.isSome = true →
      exec (requestCommand k b z) s = .next { s.quiet with link := { s.link with lastError := .overrun } }) ∧
    (s.link.held = none → s.link.slot.isSome = true ∨ s.waiting.isSome = true →
      exec (requestCommand k b z) s =
        .next { s.quiet with link := { s.link with held := some { kind := k.code, body := b } } })

/-- The decoder's examination, in its order: UNKNOWN_KIND, then BAD_LENGTH, then BUSY; each refusal changes no state but for the
summary's clearing effects. The request kinds with their payload lengths and the result codes are those of the tables (R165,
R170, R173). -/
def Obligations.DecoderRefusesInOrder : Prop :=
  (∀ (b : Body) (z : Nat) (s : State), s.takesAtOnce → b.payload.length ≤ 56 →
    (∀ kind : Byte, kind.toNat = 0 ∨ 0x22 < kind.toNat →
      exec (.unknownKindRequest kind b) s = .next (s.quiet.withReply kind b .unknownKind [])) ∧
    (∀ k : RequestKind, b.payload.length ≠ k.payloadLength →
      exec (requestCommand k b z) s = .next (s.quiet.withReply k.code b .badLength [])) ∧
    (∀ k : RequestKind, b.payload.length = k.payloadLength → s.decoder ≠ .ready → k ≠ .queryStatus →
      exec (requestCommand k b z) s = .next (s.quiet.withReply k.code b .busy []))) ∧
  (∀ k : RequestKind, (k.code.toNat, k.payloadLength) = match k with
    | .queryStatus => (0x01, 0) | .readFault => (0x02, 0) | .setModes => (0x03, 21) | .setTravel => (0x04, 20)
    | .readConfig => (0x05, 0) | .partitionStore => (0x06, 1) | .restart => (0x07, 0) | .defineType => (0x08, 8)
    | .dropType => (0x09, 1) | .setTypeCursor => (0x0A, 1) | .readTypes => (0x0B, 0) | .enqueueJob => (0x0C, 11)
    | .amendJob => (0x0D, 6) | .cancelJob => (0x0E, 2) | .readJob => (0x0F, 2) | .setListCursor => (0x10, 2)
    | .listJobs => (0x11, 0) | .setStack => (0x12, 7) | .loadStack => (0x13, 4) | .unloadStack => (0x14, 1)
    | .readStacks => (0x15, 0) | .setLane => (0x16, 20) | .parkLane => (0x17, 1) | .unparkLane => (0x18, 1)
    | .closeBook => (0x19, 1) | .readLane => (0x1A, 1) | .home => (0x1B, 0) | .run => (0x1C, 0)
    | .hold => (0x1D, 0) | .halt => (0x1E, 0) | .resume => (0x1F, 0) | .abort => (0x20, 0)
    | .clearFault => (0x21, 0) | .releaseHeld => (0x22, 0)) ∧
  (∀ r : Result, r.code = match r with
    | .ok => 0x00 | .okAdjusted => 0x01 | .deferred => 0x02 | .busy => 0x10 | .unknownKind => 0x11
    | .badLength => 0x12 | .outOfRange => 0x13 | .typeUndefined => 0x14 | .typeInUse => 0x15 | .gripShort => 0x16
    | .tagInUse => 0x17 | .tagUnknown => 0x18 | .listFull => 0x19 | .jobState => 0x1A | .stackType => 0x1B
    | .stackBusy => 0x1C | .stackHeight => 0x1D | .stackUnset => 0x1E | .laneUnconfigured => 0x1F | .laneState => 0x20
    | .gantryState => 0x21 | .safetyActive => 0x22 | .panelHeld => 0x23 | .storeInUse => 0x24 | .nothingToAbort => 0x25
    | .travelConflict => 0x26)

/-- A frame the READY decoder takes receives exactly one reply, with its tag and its kind with bit 7 set, unless it starts a
clearing; the receiver, the transmitter and the held place are as before; when bit 0 of the flags asks for it, the payload ends in
the 10-byte summary of the state the reply is placed in (R170, R172, R173). The ten bytes of the summary and the value codes are
those of R164. -/
def Obligations.EveryRequestIsAnswered : Prop :=
  (∀ (k : RequestKind) (b : Body) (z : Nat) (s : State), s.ready → b.payload.length = k.payloadLength →
    k ≠ .partitionStore → k ≠ .restart →
    ∃ t r, exec (requestCommand k b z) s = .next t ∧ t.decoder = .ready ∧ t.waiting = none ∧
      t.link = { s.link with slot := some r, lastError := if b.flags.getLsbD 0 then .none else s.link.lastError } ∧
      r.kind = k.code ||| 0x80 ∧ r.tag = b.tag ∧
      ∃ (u : State) (result : Result) (p : List Byte), u.link = s.link ∧
        (t = u.withReply k.code b result p ∨ t = (u.withReply k.code b result p).reevaluate) ∧
        r.payload = (if b.flags.getLsbD 0 = true then p ++ u.summary else p)) ∧
  (∀ s : State, s.summary =
    [(match s.gantry.state with
      | .unhomed => 0 | .homing _ => 1 | .idle => 2 | .cycling => 3 | .halted _ => 4 | .aborting => 5 | .fault => 6 : Byte),
     (match s.gantry.state, s.transfer with
      | .cycling, some t | .aborting, some t | .halted .cycling, some t | .halted .aborting, some t | .fault, some t =>
        byteOf t.phase.code
      | _, _ => 0),
     byteOf ((if s.runMode = .run then 1 else 0) + (if s.inputs.safety then 2 else 0) + (if s.gantry.dryRun then 4 else 0) +
      (if s.fault.entry = none then 0 else 8) + (if s.notices.lost then 16 else 0) +
      (if s.decoder = .ready ∧ s.waiting = none then 0 else 32))] ++
    ([LaneNo.l1, .l2, .l3, .l4].map fun l =>
      byteOf ((match (s.lane l).state with | .parked => 0 | .idle => 1 | .filling _ => 2 | .handed _ => 3) +
        (if (s.lane l).parkRequest then 4 else 0) + (if (s.lane l).stalled then 8 else 0) +
        (if s.gantry.dryRun = true ∨ s.inputs.sawReady.get l = true then 16 else 0))) ++
    le16 s.store.jobs.entries.length ++
    [(match s.link.lastError with
      | .none => 0 | .parity => 1 | .gap => 2 | .length => 3 | .check => 4 | .break => 5 | .overrun => 6 : Byte)]) ∧
  (∀ n : Nat, byteOf n = BitVec.ofNat 8 n ∧ le16 n = [BitVec.ofNat 8 n, BitVec.ofNat 8 (n / 256)]) ∧
  (∀ g : Gantry, g.code = match g with
    | .unhomed => 0 | .homing _ => 1 | .idle => 2 | .cycling => 3 | .halted _ => 4 | .aborting => 5 | .fault => 6) ∧
  (∀ m : Remembered, m.code = match m with | .homing => 1 | .idle => 2 | .cycling => 3 | .aborting => 5) ∧
  (∀ f : FaultState, f.code = match f with | .homing => 1 | .cycling => 3 | .halted => 4 | .aborting => 5) ∧
  (∀ p : Phase, p.code = match p with
    | .toStack => 1 | .search => 2 | .grip => 3 | .lift => 4 | .toLane => 5 | .lower => 6 | .release => 7 | .rise => 8
    | .retreat => 9 | .toReject => 10 | .rejectLower => 11 | .rejectRelease => 12 | .rejectRise => 13) ∧
  (∀ v : LaneState, v.code = match v with | .parked => 0 | .idle => 1 | .filling _ => 2 | .handed _ => 3) ∧
  (∀ v : JobState, v.code = match v with
    | .queued => 0 | .active => 1 | .complete => 2 | .cancelled => 3 | .failed => 4) ∧
  (∀ f : FaultKind, faultKindCode (some f) = f.code ∧ f.code = match f with
    | .driveX => 1 | .driveY => 2 | .driveZ => 3 | .driveC => 4 | .limit => 5 | .drop => 6) ∧
  faultKindCode none = 0 ∧
  (∀ d : Decoder, d.code = match d with | .ready => 0 | .starting => 1 | .partitioning _ _ => 2 | .restarting _ => 3) ∧
  (∀ v : Rounding, v.code = match v with | .towardDatum => 0 | .away => 1 | .even => 2) ∧
  (∀ v : TimerMode, v.code = match v with | .off => 0 | .monitor => 1 | .pace => 2) ∧
  (∀ v : Sign, v.code = match v with | .plus => 1 | .minus => 0xFF) ∧
  (∀ v : Rotation, v.degrees = match v with | .r0 => 0 | .r90 => 90) ∧
  (∀ l : LaneNo, jobLaneCode (some l) = laneCode l ∧ laneCode l = match l with
    | .l1 => 1 | .l2 => 2 | .l3 => 3 | .l4 => 4) ∧
  jobLaneCode none = 0

/-! ## Sending -/

/-- FRAME_START with the transmitter idle and HOST-READY asserted: the first waiting item in the order of R176 is placed in the
transmitter with its contents as they stand, and its flags clear, its entry or the reply leaves (R52, R94, R152, R158, R175,
R176, R177, R178). A frame held behind the reply that leaves is taken and examined at that moment, as its request command is
on an empty slot (R170). The payloads of the LANE, STACK and JOB FINISHED notices are those of R164. That FRAME_START is a
command of its own is the model's choice (log 2), the Z drive's report `z` an operand of it (log 5). -/
def Obligations.FrameStartFollowsTheOrder : Prop :=
  (∀ (s : State) (z : Nat), s.resetHeld = false → s.link.tx = none → s.inputs.hostReady = true →
    (∀ r, s.link.slot = some r → s.link.held = none ∨ s.waiting.isSome = true → exec (.frameStart z) s =
      .next { s.quiet with link := { s.link with slot := none, tx := some (frameBytes r.kind r.tag r.result r.payload) } }) ∧
    (∀ (r : Reply) (f : Frame) (u : State), s.link.slot = some r → s.link.held = some f → s.waiting = none →
      f.body.fits = true →
      u = { s.quiet with link := { s.link with
        slot := none, held := none, tx := some (frameBytes r.kind r.tag r.result r.payload) } } →
      (∀ k : RequestKind, f.kind = k.code → exec (.frameStart z) s = exec (requestCommand k f.body z) u) ∧
      (kindKnown f.kind = false → exec (.frameStart z) s = exec (.unknownKindRequest f.kind f.body) u)) ∧
    (∀ r, s.link.slot = some r → ∃ t, exec (.frameStart z) s = .next t ∧
      t.link.tx = some (frameBytes r.kind r.tag r.result r.payload)) ∧
    (s.link.slot = none → s.fault.note = true → exec (.frameStart z) s =
      .next { s.quiet with
        fault := { s.fault with note := false }
        link := { s.link with tx := some (frameBytes 0xE5 0 0
          [byteOf (faultKindCode s.fault.reportKind), byteOf s.fault.reportCount]) } }) ∧
    (s.link.slot = none → s.fault.note = false → s.gantryNoticePending = true → exec (.frameStart z) s =
      .next { s.quiet with
        gantry := { s.quiet.gantry with noteHomed := false, noteHalted := false }
        link := { s.link with tx := some (frameBytes 0xE4 0 0
          [byteOf ((if s.gantry.noteHomed then 1 else 0) + (if s.gantry.noteHalted then 2 else 0)),
            byteOf s.gantry.state.code]) } }) ∧
    (∀ l, s.link.slot = none → s.fault.note = false → s.gantryNoticePending = false → (s.lane l).noticePending = true →
      (∀ m, laneCode m < laneCode l → (s.lane m).noticePending = false) →
      exec (.frameStart z) s =
        .next { s.quiet with
          lanes := s.lanes.set l { s.lane l with noteHanded := false, noteParked := false, noteStalled := false,
                                                 noteSpurious := false }
          link := { s.link with tx := some (frameBytes 0xE2 0 0 ((s.lane l).noticeFields l)) } }) ∧
    (s.link.slot = none → s.fault.note = false → s.gantryNoticePending = false →
      (∀ l, (s.lane l).noticePending = false) → s.stackNoticePending = true → ∃ t, exec (.frameStart z) s = .next t ∧
        t = { s.quiet with
          stackTable := t.stackTable
          link := { s.link with tx := some (frameBytes 0xE3 0 0 s.stackNoticeFields) } } ∧
        ∀ k, t.stack k = { s.stack k with emptyFlag := false, suspectFlag := false }) ∧
    (∀ n rest, s.link.slot = none → s.fault.note = false → s.gantryNoticePending = false →
      (∀ l, (s.lane l).noticePending = false) → s.stackNoticePending = false → s.notices.fifo = n :: rest →
      exec (.frameStart z) s =
        .next { s.quiet with
          notices := { s.notices with fifo := rest }
          link := { s.link with tx := some (frameBytes 0xE1 0 0 n.fields) } })) ∧
  (∀ (v : Lane) (l : LaneNo) (head : List Byte),
    head = [byteOf (laneCode l),
      byteOf ((if v.noteHanded then 1 else 0) + (if v.noteParked then 2 else 0) + (if v.noteStalled then 4 else 0) +
        (if v.noteSpurious then 8 else 0)),
      (match v.state with | .parked => 0 | .idle => 1 | .filling _ => 2 | .handed _ => 3 : Byte)] →
    (v.noticePending = true ↔ v.noteHanded = true ∨ v.noteParked = true ∨ v.noteStalled = true ∨ v.noteSpurious = true) ∧
    (v.noteHanded = false → v.noticeFields l = head) ∧
    (∀ bk, v.noteHanded = true → v.report = some bk → v.noticeFields l = head ++ [byteOf bk.key.type] ++
      le16 bk.key.pattern ++ [(match bk.key.rotation with | .r0 => 0 | .r90 => 90 : Byte), byteOf bk.tags.length] ++
      le16 bk.height ++ bk.tags.flatMap le16)) ∧
  (∀ s : State, (s.stackNoticePending = true ↔ ∃ k, (s.stack k).emptyFlag = true ∨ (s.stack k).suspectFlag = true) ∧
    ∃ empty suspect : Byte, s.stackNoticeFields = [empty, suspect] ∧
      ∀ k : StackNo, empty.getLsbD (k.code - 1) = (s.stack k).emptyFlag ∧
        suspect.getLsbD (k.code - 1) = (s.stack k).suspectFlag) ∧
  (∀ n : JobNotice, n.fields = le16 n.tag ++
    [(match n.final with | .queued => 0 | .active => 1 | .complete => 2 | .cancelled => 3 | .failed => 4 : Byte),
      (match n.reason with | none => 0 | some .reach => 1 | some .fit => 2 : Byte)] ++
    le16 n.placed ++ le16 n.rejected ++ le16 n.lost ++ le16 n.clamped)

/-- HOST_READY_ASSERTED changes the level only; FRAME_SENT leaves the transmitter idle; a frame does not start while HOST-READY is
deasserted, while one is being sent, or with nothing waiting (R175). That HOST_READY_ASSERTED carries the level, false for the
line's fall, is the model's choice (log 3), and so is the change of the level under the reset pin (log 7). -/
def Obligations.NothingStartsWithoutHostReady : Prop :=
  ∀ (s : State) (z : Nat),
    (∀ level, exec (.hostReadyAsserted level) s = .next { s.quiet with inputs := { s.inputs with hostReady := level } }) ∧
    (s.resetHeld = false → exec .frameSent s = .next { s.quiet with link := { s.link with tx := none } }) ∧
    (s.resetHeld = false →
      s.inputs.hostReady = false ∨ s.link.tx.isSome = true ∨
        (s.link.slot = none ∧ s.fault.note = false ∧ s.gantryNoticePending = false ∧
          (∀ l, (s.lane l).noticePending = false) ∧ s.stackNoticePending = false ∧ s.notices.fifo = []) →
      exec (.frameStart z) s = .next s.quiet)

/-! ## The panel store -/

/-- The end of a store clearing and the placing of its waiting reply (R4, R6, R7, R171). That the summary of such a reply shows
the decoder READY is the model's reading (log 12), and so are the 2 bytes each of J and T in the reply of PARTITION STORE
(log 11). -/
def Obligations.ClearingEndsWithItsReply : Prop :=
  ∀ s : State, s.resetHeld = false →
    (s.waiting = none → s.decoder = .starting → exec .storeClearingEnd s =
      .next { s.quiet with decoder := .ready, store := .cleared .p1 }) ∧
    (∀ p f, s.waiting = none → s.decoder = .partitioning p f → exec .storeClearingEnd s =
      .next (if s.link.slot = none then
          ({ s.quiet with decoder := .ready, store := .cleared p } : State).withReply f.kind f.body .ok
            ([byteOf p.code] ++ le16 p.jobSlots ++ le16 p.typeSlots)
        else { s.quiet with
          store := .cleared p
          waiting := some { request := f, payload := [byteOf p.code] ++ le16 p.jobSlots ++ le16 p.typeSlots } })) ∧
    (∀ f, s.waiting = none → s.decoder = .restarting f → exec .storeClearingEnd s =
      .next (if s.link.slot = none then
          ({ s.quiet with
             decoder := .ready
             store := { s.store with listCursor := 0, jobs := { start := 0, entries := [] } } } : State).withReply
            f.kind f.body .ok []
        else { s.quiet with
          store := { s.store with listCursor := 0, jobs := { start := 0, entries := [] } }
          waiting := some { request := f, payload := [] } })) ∧
    (s.waiting.isSome = true ∨ s.decoder = .ready → exec .storeClearingEnd s = .next s.quiet) ∧
    (∀ w, s.waiting = some w → s.link.slot = none → exec .waitingReplyPlaced s =
      .next (({ s.quiet with decoder := .ready, waiting := none } : State).withReply w.request.kind w.request.body .ok
        w.payload)) ∧
    (s.waiting = none ∨ s.link.slot.isSome = true → exec .waitingReplyPlaced s = .next s.quiet)

/-- PARTITION STORE: the checks of R3 in their order, and on acceptance the decoder PARTITIONING with no reply yet (R3, R4,
R171). -/
def Obligations.PartitionStoreNeedsAnEmptyCell : Prop :=
  ∀ (b : Body) (s : State), s.ready → b.payload.length = 1 →
    ((∀ p : Partition, u8 b.payload 0 ≠ p.code) →
      exec (.partitionStore b) s = .next (s.quiet.withReply 0x06 b .outOfRange [])) ∧
    (∀ p : Partition, u8 b.payload 0 = p.code →
      (s.store.jobs.entries ≠ [] ∨ (∃ k, (s.stack k).present = true) ∨ (∃ l bk, (s.lane l).state = .filling bk) ∨
          (∃ l bk, (s.lane l).state = .handed bk) ∨ s.gantry.state = .cycling ∨ s.gantry.state = .aborting ∨
          s.gantry.state = .halted .cycling ∨ s.gantry.state = .halted .aborting ∨
          (s.gantry.state = .fault ∧ s.transfer.isSome = true) →
        exec (.partitionStore b) s = .next (s.quiet.withReply 0x06 b .storeInUse [])) ∧
      (s.store.jobs.entries = [] → (∀ k, (s.stack k).present = false) → (∀ l, (s.lane l).state.book = none) →
        s.gantry.state ≠ .cycling → s.gantry.state ≠ .aborting → s.gantry.state ≠ .halted .cycling →
        s.gantry.state ≠ .halted .aborting → (s.gantry.state = .fault → s.transfer = none) →
        exec (.partitionStore b) s =
          .next { s.quiet with decoder := .partitioning p { kind := 0x06, body := b } }))

/-- RESTART: refused with GANTRY_STATE or PANEL_HELD; on acceptance the decoder is RESTARTING, the run mode HOLD, every lane
PARKED with its configuration kept, lists, FIFO and job entries emptied, a record in FAULT discarded with both counters stopped,
and everything else kept (R41, R97, R178, R184). That the pointers move only at the clearing's end is the model's reading
(log 19). -/
def Obligations.RestartParksAndEmpties : Prop :=
  ∀ (b : Body) (s : State), s.ready → b.payload = [] →
    ((∃ h, s.gantry.state = .homing h) ∨ s.gantry.state = .cycling ∨ s.gantry.state = .aborting ∨
        (∃ r, s.gantry.state = .halted r) →
      exec (.restart b) s = .next (s.quiet.withReply 0x07 b .gantryState [])) ∧
    (s.gantry.state = .fault → s.holding = true →
      exec (.restart b) s = .next (s.quiet.withReply 0x07 b .panelHeld [])) ∧
    (s.gantry.state = .unhomed ∨ s.gantry.state = .idle ∨ (s.gantry.state = .fault ∧ s.holding = false) →
      ∃ t, exec (.restart b) s = .next t ∧
        t = { s.quiet with
          decoder := .restarting { kind := 0x07, body := b }, runMode := .hold, lanes := t.lanes, idleQueue := [],
          fillingOrder := [], notices := { fifo := [], lost := false },
          store := { s.store with jobs := { s.store.jobs with entries := [] } },
          transfer := if s.gantry.state = .fault then none else s.transfer,
          gripCounter := if s.gantry.state = .fault then .stopped else s.gripCounter,
          releaseCounter := if s.gantry.state = .fault then .stopped else s.releaseCounter } ∧
        ∀ l, t.lane l = { configured := (s.lane l).configured, cfg := (s.lane l).cfg, state := .parked, parkRequest := false,
                          inbound := false, closePending := false, stalled := false, laneTimer := none, bookTimer := none,
                          noteHanded := false, noteParked := false, noteStalled := false, noteSpurious := false,
                          report := none })

/-! ## Panel types -/

/-- R56: zone k is in the mask exactly when 2 × (|c| + 1200) ≤ L, with the centre offsets of the table of 4.2; the zone count is
the number of zones in the mask; the pairs open at 5400, 11400, 17400 and 23400. -/
def Obligations.ZoneMaskIsTheZoneTest : Prop :=
  ∀ len : Nat,
    (∀ (k : Nat) (c : Int), (k, c) ∈ [(0, -10500), (1, -7500), (2, -4500), (3, -1500), (4, 1500), (5, 4500), (6, 7500),
        (7, (10500 : Int))] →
      ((zoneMask len).getLsbD k = true ↔ 2 * ((c.natAbs : Int) + 1200) ≤ len)) ∧
    zoneCount len = ((List.range 8).filter fun k => (zoneMask len).getLsbD k).length ∧
    (zoneMask len = if len < 5400 then 0 else if len < 11400 then 0x18 else if len < 17400 then 0x3C
      else if len < 23400 then 0x7E else 0xFF) ∧
    zoneCount len = if len < 5400 then 0 else if len < 11400 then 2 else if len < 17400 then 4
      else if len < 23400 then 6 else 8

/-- R57, R58 and R64: the half-dimension by rounding mode, the footprint by rotation, and the limit test: in range, clamped
onto the limit, or REACH. -/
def Obligations.HalvesFootprintsAndLimits : Prop :=
  (∀ (r : Rounding) (v : Nat), v % 2 = 0 → 2 * halve r v = v) ∧
  (∀ v : Nat, v % 2 = 1 → 2 * halve .towardDatum v + 1 = v ∧ 2 * halve .away v = v + 1 ∧ halve .even v % 2 = 0 ∧
    (2 * halve .even v + 1 = v ∨ 2 * halve .even v = v + 1)) ∧
  (∀ e : TypeEntry, footX e .r0 = e.len ∧ footY e .r0 = e.wid ∧ footX e .r90 = e.wid ∧ footY e .r90 = e.len) ∧
  (∀ (v : Int) (lo hi tol : Nat), lo ≤ hi →
    ((lo : Int) ≤ v → v ≤ hi → ∃ c, limitTest v lo hi tol = some { pos := c, clamped := false } ∧ (c : Int) = v) ∧
    ((hi : Int) < v → v - hi ≤ tol → limitTest v lo hi tol = some { pos := hi, clamped := true }) ∧
    (v < (lo : Int) → lo - v ≤ tol → limitTest v lo hi tol = some { pos := lo, clamped := true }) ∧
    ((tol : Int) < v - hi ∨ (tol : Int) < lo - v → limitTest v lo hi tol = none))

/-- DEFINE TYPE: the checks of R10 in their order; an accepted definition writes the entry with its computed mask and count,
changes no other entry, and the reply carries the mask and the count; a type is in use as R11 says (R8, R9, R10, R11). -/
def Obligations.DefineTypeWritesTheEntry : Prop :=
  (∀ (s : State) (n : Nat), s.typeInUse n = true ↔
    (∃ j ∈ s.store.jobs.entries, j.type = n) ∨ (∃ k, (s.stack k).present = true ∧ (s.stack k).type = n) ∨
    (∃ l bk, ((s.lane l).state = .filling bk ∨ (s.lane l).state = .handed bk) ∧ bk.key.type = n) ∨
    (∃ t, s.transfer = some t ∧ t.key.type = n)) ∧
  ∀ (b : Body) (s : State), s.ready → b.payload.length = 8 →
    (s.store.partition.typeSlots ≤ u8 b.payload 0 →
      exec (.defineType b) s = .next (s.quiet.withReply 0x08 b .typeUndefined [])) ∧
    (u8 b.payload 0 < s.store.partition.typeSlots →
      ¬ (Between 5400 56000 (u16 b.payload 1) ∧ Between 2000 22000 (u16 b.payload 3) ∧ Between 30 800 (u16 b.payload 5) ∧
        Between 1 4 (u8 b.payload 7)) →
      exec (.defineType b) s = .next (s.quiet.withReply 0x08 b .outOfRange [])) ∧
    (u8 b.payload 0 < s.store.partition.typeSlots → Between 5400 56000 (u16 b.payload 1) →
      Between 2000 22000 (u16 b.payload 3) → Between 30 800 (u16 b.payload 5) → Between 1 4 (u8 b.payload 7) →
      (zoneCount (u16 b.payload 1) < 2 * u8 b.payload 7 →
        exec (.defineType b) s = .next (s.quiet.withReply 0x08 b .gripShort [])) ∧
      (2 * u8 b.payload 7 ≤ zoneCount (u16 b.payload 1) →
        (lookupType s.store.types (u8 b.payload 0)).isSome = true → s.typeInUse (u8 b.payload 0) = true →
        exec (.defineType b) s = .next (s.quiet.withReply 0x08 b .typeInUse [])) ∧
      (2 * u8 b.payload 7 ≤ zoneCount (u16 b.payload 1) →
        lookupType s.store.types (u8 b.payload 0) = none ∨ s.typeInUse (u8 b.payload 0) = false →
        ∃ ts, exec (.defineType b) s =
            .next (({ s.quiet with store := { s.store with types := ts } } : State).withReply 0x08 b .ok
              [zoneMask (u16 b.payload 1), byteOf (zoneCount (u16 b.payload 1))]) ∧
          lookupType ts (u8 b.payload 0) =
            some { len := u16 b.payload 1, wid := u16 b.payload 3, thk := u16 b.payload 5, cls := u8 b.payload 7,
                   mask := zoneMask (u16 b.payload 1), zones := zoneCount (u16 b.payload 1) } ∧
          ∀ m, m ≠ u8 b.payload 0 → lookupType ts m = lookupType s.store.types m))

/-- DROP TYPE acts as the table of R12 states; the in-use test is that of R11, spelled out. -/
def Obligations.DropTypeActsByItsTable : Prop :=
  ∀ (b : Body) (s : State), s.ready → b.payload.length = 1 → s.store.wf = true →
    (s.store.partition.typeSlots ≤ u8 b.payload 0 →
      exec (.dropType b) s = .next (s.quiet.withReply 0x09 b .typeUndefined [])) ∧
    (u8 b.payload 0 < s.store.partition.typeSlots →
      (lookupType s.store.types (u8 b.payload 0) = none →
        exec (.dropType b) s = .next (s.quiet.withReply 0x09 b .ok [])) ∧
      ((lookupType s.store.types (u8 b.payload 0)).isSome = true →
        ((∃ j ∈ s.store.jobs.entries, j.type = u8 b.payload 0) ∨
            (∃ k, (s.stack k).present = true ∧ (s.stack k).type = u8 b.payload 0) ∨
            (∃ l bk, ((s.lane l).state = .filling bk ∨ (s.lane l).state = .handed bk) ∧ bk.key.type = u8 b.payload 0) ∨
            (∃ t, s.transfer = some t ∧ t.key.type = u8 b.payload 0) →
          exec (.dropType b) s = .next (s.quiet.withReply 0x09 b .typeInUse [])) ∧
        ((∀ j ∈ s.store.jobs.entries, j.type ≠ u8 b.payload 0) →
          (∀ k, (s.stack k).present = true → (s.stack k).type ≠ u8 b.payload 0) →
          (∀ l bk, (s.lane l).state.book = some bk → bk.key.type ≠ u8 b.payload 0) →
          (∀ t, s.transfer = some t → t.key.type ≠ u8 b.payload 0) →
          ∃ ts, exec (.dropType b) s =
              .next (({ s.quiet with store := { s.store with types := ts } } : State).withReply 0x09 b .ok []) ∧
            lookupType ts (u8 b.payload 0) = none ∧
            ∀ m, m ≠ u8 b.payload 0 → lookupType ts m = lookupType s.store.types m)))

/-- SET TYPE CURSOR and SET LIST CURSOR take a valid value and refuse any other with OUT_OF_RANGE; FROM-START, 0xFFFF, takes the
start pointer and replies it (R14, R39). -/
def Obligations.CursorsTakeValidValues : Prop :=
  ∀ (b : Body) (s : State), s.ready →
    (b.payload.length = 1 →
      exec (.setTypeCursor b) s = .next (if u8 b.payload 0 < s.store.partition.typeSlots then
        ({ s.quiet with store := { s.store with typeCursor := u8 b.payload 0 } } : State).withReply 0x0A b .ok []
        else s.quiet.withReply 0x0A b .outOfRange [])) ∧
    (b.payload.length = 2 →
      exec (.setListCursor b) s = .next (if u16 b.payload 0 = 0xFFFF then
        ({ s.quiet with store := { s.store with listCursor := s.store.jobs.start } } : State).withReply 0x10 b .ok
          (le16 s.store.jobs.start)
        else if u16 b.payload 0 < s.store.partition.jobSlots then
        ({ s.quiet with store := { s.store with listCursor := u16 b.payload 0 } } : State).withReply 0x10 b .ok []
        else s.quiet.withReply 0x10 b .outOfRange []))

/-- READ TYPES reports four types from the type cursor modulo T, zeros for an undefined one, and LIST JOBS three slots from the
list cursor modulo J, each with every field of R18, zeros for an empty one; the cursors then advance by 4 and by 3 (R15, R16,
R18, R40). -/
def Obligations.ReadsWalkFromTheirCursors : Prop :=
  ∀ (b : Body) (s : State), s.ready → b.payload = [] → s.store.wf = true →
    (∃ rec : Nat → List Byte,
      exec (.readTypes b) s =
        .next (({ s.quiet with
          store := { s.store with typeCursor := (s.store.typeCursor + 4) % s.store.partition.typeSlots } } :
          State).withReply 0x0B b .ok
          (rec 0 ++ rec 1 ++ rec 2 ++ rec 3)) ∧
      ∀ i < 4, ∀ n, n = (s.store.typeCursor + i) % s.store.partition.typeSlots →
        (lookupType s.store.types n = none → rec i = byteOf n :: List.replicate 10 0) ∧
        (∀ e, lookupType s.store.types n = some e →
          rec i = [byteOf n, 1] ++ le16 e.len ++ le16 e.wid ++ le16 e.thk ++ [byteOf e.cls, e.mask, byteOf e.zones])) ∧
    (∃ rec : Nat → List Byte,
      exec (.listJobs b) s =
        .next (({ s.quiet with
          store := { s.store with listCursor := (s.store.listCursor + 3) % s.store.partition.jobSlots } } :
          State).withReply 0x11 b .ok
          (rec 0 ++ rec 1 ++ rec 2)) ∧
      ∀ i < 3, ∀ n, n = (s.store.listCursor + i) % s.store.partition.jobSlots →
        (s.jobAt n = none → rec i = le16 n ++ List.replicate 27 0) ∧
        (∀ j, s.jobAt n = some j → ∃ pos, (s.store.jobs.start + pos) % s.store.partition.jobSlots = n ∧
          pos < s.store.jobs.entries.length ∧
          rec i = le16 n ++ [(1 : Byte)] ++ le16 (pos + 1) ++ [if pos + 1 ≤ s.modes.window then (1 : Byte) else 0] ++
            (le16 j.tag ++ [byteOf j.type, byteOf j.stack.code, byteOf (jobLaneCode j.lane), byteOf j.rotation.degrees] ++
              le16 j.pattern ++ [if j.urgent then (1 : Byte) else 0] ++ le16 j.count ++ le16 j.placed ++ le16 j.rejected ++
              le16 j.lost ++ le16 j.clamped ++
              [byteOf j.state.code, (match j.reason with | none => 0 | some .reach => 1 | some .fit => 2 : Byte),
                if j.cancelPending then 1 else 0, if j.inFlight then 1 else 0])))

/-! ## The reads -/

/-- QUERY STATUS answers OK with the 22 bytes of R174 in every decoder state, and READ FAULT with the entry of R154, or zeros,
and the five input levels (R159, R174); neither changes anything but the reply. -/
def Obligations.StatusAndFaultAreReported : Prop :=
  ∀ (b : Body) (s : State), s.takesAtOnce → b.payload = [] →
    (∃ p, exec (.queryStatus b) s = .next (s.quiet.withReply 0x01 b .ok p) ∧ p.length = 22 ∧
      p.take 1 = [byteOf s.decoder.code] ∧
      (∀ t, s.transfer = some t → (p.drop 1).take 11 =
        [1] ++ le16 t.jobTag ++ [byteOf t.stack.code, byteOf (laneCode t.lane), byteOf t.phase.code, byteOf t.attempts,
          if t.held then 1 else 0] ++ (match t.zc with | some z => 1 :: le16 z | none => [0, 0, 0])) ∧
      (s.transfer = none → (p.drop 1).take 11 = List.replicate 11 0) ∧
      (p.drop 12).take 3 =
        [match s.gantry.state with | .halted r => byteOf r.code | _ => 0xFF,
         match s.gantry.state, s.transfer with
           | .halted .cycling, some t => byteOf t.phase.code
           | .halted .aborting, some t => byteOf t.phase.code
           | _, _ => 0,
         match s.gantry.state with | .homing .one => 1 | .homing .two => 2 | .homing .three => 3 | _ => 0] ∧
      p.drop 15 = (match s.gantry.head with
        | some h => le16 h.x ++ le16 h.y ++ le16 h.z ++ [byteOf h.c]
        | none => List.replicate 7 0)) ∧
    (s.decoder = .ready → exec (.readFault b) s = .next (s.quiet.withReply 0x02 b .ok
      ((match s.fault.entry with
        | some e => [1, byteOf e.kind.code, byteOf e.found.code, match e.remembered with | some r => byteOf r.code | none => 0xFF,
            match e.phase with | some q => byteOf q.code | none => 0] ++
            le16 (match e.jobTag with | some g => g | none => 0) ++ [if e.held then 1 else 0] ++ le16 e.lastX ++
            le16 e.lastY ++ le16 e.lastZ ++ le16 e.further
        | none => List.replicate 16 0) ++
      [if s.inputs.driveFault.x then 1 else 0, if s.inputs.driveFault.y then 1 else 0,
        if s.inputs.driveFault.z then 1 else 0, if s.inputs.driveFault.c then 1 else 0, if s.inputs.limit then 1 else 0])))

/-- R182: READ CONFIG answers OK with 47 bytes: the partition number, J and T, the 21 SET MODES values, the 20 SET TRAVEL
values and the baud code; it changes no state but for the reply. J and T take 2 bytes each (log 11). -/
def Obligations.ConfigIsReported : Prop :=
  ∀ (b : Body) (s : State), s.ready → b.payload = [] →
    ∃ p, exec (.readConfig b) s = .next (s.quiet.withReply 0x05 b .ok p) ∧ p.length = 47 ∧
      p = [byteOf s.store.partition.code] ++ le16 s.store.partition.jobSlots ++ le16 s.store.partition.typeSlots ++
        ([byteOf s.modes.rounding.code, byteOf s.modes.window] ++ le16 s.modes.starve ++
          [if s.gantry.dryRun then 1 else 0] ++ le16 s.modes.dryMove ++ le16 s.modes.settle1 ++ le16 s.modes.settle2 ++
          le16 s.modes.settle3 ++ le16 s.modes.settle4 ++ le16 s.modes.release ++ le16 s.modes.contactTol ++
          le16 s.modes.clampTol) ++
        (le16 s.travel.xMin ++ le16 s.travel.xMax ++ le16 s.travel.yMin ++ le16 s.travel.yMax ++ le16 s.travel.zMin ++
          le16 s.travel.zMax ++ le16 s.travel.ztravel ++ le16 s.travel.xr ++ le16 s.travel.yr ++ le16 s.travel.zr) ++
        [byteOf s.link.baud]

/-- READ STACKS, READ LANE and READ JOB answer with the record as it stands and change nothing but the reply; an unknown lane is
refused with OUT_OF_RANGE, an unknown tag with TAG_UNKNOWN (R18, R38, R53, R95). Field widths of the lane report are the
model's (log 9); whether a started second counts, and the two bytes of an age beyond them, are free values (log 10). -/
def Obligations.RecordsAreReported : Prop :=
  ∀ (b : Body) (s : State), s.ready →
    (b.payload = [] → exec (.readStacks b) s = .next (s.quiet.withReply 0x15 b .ok
      ([StackNo.k1, .k2, .k3, .k4, .k5, .k6, .k7, .k8].flatMap fun k =>
        [byteOf k.code, if (s.stack k).geometrySet then 1 else 0] ++ le16 (s.stack k).xs ++ le16 (s.stack k).ys ++
          le16 (s.stack k).zf ++ [if (s.stack k).present then 1 else 0, byteOf (s.stack k).type] ++ le16 (s.stack k).count ++
          [if (s.stack k).suspect then 1 else 0,
            match s.transfer with
            | some t => if t.stack = k ∧ (t.phase = .toStack ∨ t.phase = .search ∨ t.phase = .grip) then 1 else 0
            | none => 0] ++
          le16 (if (s.stack k).present then (s.stack k).zf + (s.stack k).count * (s.typeEntry (s.stack k).type).thk
            else 0)))) ∧
    (b.payload.length = 1 → (∀ l, u8 b.payload 0 ≠ laneCode l) →
      exec (.readLane b) s = .next (s.quiet.withReply 0x1A b .outOfRange [])) ∧
    (∀ (l : LaneNo) (seconds : Nat → Nat) (laneLeft bookLeft idlePlace fillingPlace : Nat) (age : List Byte),
      b.payload.length = 1 → u8 b.payload 0 = laneCode l →
      (∀ ms, seconds ms = ms / 1000 + (if ms % 1000 ≠ 0 ∧ Config.startedSecondCounts ms = true then 1 else 0)) →
      (laneLeft = match (s.lane l).laneTimer with | none => 0 | some ms => seconds ms) →
      (bookLeft = match (s.lane l).bookTimer with | none => 0 | some ms => seconds ms) →
      ((∀ e ∈ s.idleQueue, e.lane ≠ l) ∧ idlePlace = 0 ∧ age = [0, 0]) ∨
        (∃ before e after, s.idleQueue = before ++ e :: after ∧ e.lane = l ∧ (∀ x ∈ before, x.lane ≠ l) ∧
          idlePlace = before.length + 1 ∧
          age = if seconds e.age < 65536 then le16 (seconds e.age) else le16 (Config.idleAgeBeyond (seconds e.age)).toNat) →
      (l ∉ s.fillingOrder ∧ fillingPlace = 0) ∨
        (∃ before after, s.fillingOrder = before ++ l :: after ∧ l ∉ before ∧ fillingPlace = before.length + 1) →
      exec (.readLane b) s = .next (s.quiet.withReply 0x1A b .ok
        ([if (s.lane l).configured then (1 : Byte) else 0] ++
          (le16 (s.lane l).cfg.xf ++ le16 (s.lane l).cfg.yf ++
            [byteOf (s.lane l).cfg.sx.code, byteOf (s.lane l).cfg.sy.code] ++ le16 (s.lane l).cfg.lt ++
            le16 (s.lane l).cfg.wt ++ le16 (s.lane l).cfg.zt ++ le16 (s.lane l).cfg.hmax ++
            [byteOf (s.lane l).cfg.countLimit, byteOf (s.lane l).cfg.timerMode.code] ++ le16 (s.lane l).cfg.timerTime ++
            [byteOf (s.lane l).cfg.bookWait]) ++
          [byteOf (s.lane l).state.code, if (s.lane l).parkRequest then 1 else 0, if (s.lane l).inbound then 1 else 0,
            if (s.lane l).closePending then 1 else 0, if (s.lane l).stalled then 1 else 0,
            if s.gantry.dryRun = true ∨ s.inputs.sawReady.get l = true then 1 else 0,
            match (s.lane l).state with | .handed _ => if s.gantry.dryRun then 0 else 1 | _ => 0] ++
          le16 laneLeft ++ le16 bookLeft ++ le16 idlePlace ++ le16 fillingPlace ++ age ++
          (match (s.lane l).state.book with
            | some bk => [byteOf bk.key.type] ++ le16 bk.key.pattern ++ [byteOf bk.key.rotation.degrees,
                byteOf bk.tags.length] ++ le16 bk.height ++ bk.tags.flatMap le16
            | none => List.replicate 7 0)))) ∧
    (b.payload.length = 2 → (∀ j ∈ s.store.jobs.entries, j.tag ≠ u16 b.payload 0) →
      exec (.readJob b) s = .next (s.quiet.withReply 0x0F b .tagUnknown [])) ∧
    (∀ pos j, b.payload.length = 2 → s.store.jobs.entries[pos]? = some j → j.tag = u16 b.payload 0 →
      (∀ i < pos, ∀ k, s.store.jobs.entries[i]? = some k → k.tag ≠ j.tag) →
      exec (.readJob b) s = .next (s.quiet.withReply 0x0F b .ok
        (le16 ((s.store.jobs.start + pos) % s.store.partition.jobSlots) ++ le16 (pos + 1) ++
          [if pos + 1 ≤ s.modes.window then 1 else 0] ++
          (le16 j.tag ++ [byteOf j.type, byteOf j.stack.code, byteOf (jobLaneCode j.lane), byteOf j.rotation.degrees] ++
            le16 j.pattern ++ [if j.urgent then (1 : Byte) else 0] ++ le16 j.count ++ le16 j.placed ++ le16 j.rejected ++
            le16 j.lost ++ le16 j.clamped ++
            [byteOf j.state.code, (match j.reason with | none => 0 | some .reach => 1 | some .fit => 2 : Byte),
              if j.cancelPending then 1 else 0, if j.inFlight then 1 else 0]))))

/-! ## The job list -/

/-- ENQUEUE JOB: the checks of R23 in their order; an accepted job is written at the load cursor with the fields of R18, the reply
carries its slot and list position, and a re-evaluation follows the reply (R18, R23, R24). -/
def Obligations.EnqueueAppendsTheJob : Prop :=
  ∀ (b : Body) (s : State), s.ready → b.payload.length = 11 →
    (u16 b.payload 0 = 0 ∨ (∀ k : StackNo, u8 b.payload 3 ≠ k.code) ∨ (∀ l, u8 b.payload 4 ≠ jobLaneCode l) ∨
        (∀ r : Rotation, u8 b.payload 5 ≠ r.degrees) ∨ 4095 < u16 b.payload 6 ∨ 1 < u8 b.payload 8 ∨ u16 b.payload 9 = 0 ∨
        999 < u16 b.payload 9 →
      exec (.enqueueJob b) s = .next (s.quiet.withReply 0x0C b .outOfRange [])) ∧
    (∀ (k : StackNo) (l : Option LaneNo) (r : Rotation) (urgent : Bool), u16 b.payload 0 ≠ 0 → u8 b.payload 3 = k.code →
      u8 b.payload 4 = jobLaneCode l → u8 b.payload 5 = r.degrees → u16 b.payload 6 ≤ 4095 →
      u8 b.payload 8 = (if urgent then 1 else 0) → u16 b.payload 9 ≠ 0 → u16 b.payload 9 ≤ 999 →
      exec (.enqueueJob b) s = .next
        (if s.store.partition.typeSlots ≤ u8 b.payload 2 ∨ lookupType s.store.types (u8 b.payload 2) = none then
          s.quiet.withReply 0x0C b .typeUndefined []
        else if ∃ j ∈ s.store.jobs.entries, j.tag = u16 b.payload 0 then s.quiet.withReply 0x0C b .tagInUse []
        else if s.store.jobs.entries.length = s.store.partition.jobSlots then s.quiet.withReply 0x0C b .listFull []
        else if (s.stack k).present = true ∧ (s.stack k).type ≠ u8 b.payload 2 then s.quiet.withReply 0x0C b .stackType []
        else
          (({ s.quiet with store := { s.store with jobs := { s.store.jobs with
              entries := s.store.jobs.entries ++
                [{ tag := u16 b.payload 0, type := u8 b.payload 2, stack := k, lane := l, rotation := r,
                   pattern := u16 b.payload 6, urgent := urgent, count := u16 b.payload 9, placed := 0, rejected := 0,
                   lost := 0, clamped := 0, state := .queued, reason := none, cancelPending := false,
                   inFlight := false }] } } } : State).withReply 0x0C b .ok
            (le16 ((s.store.jobs.start + s.store.jobs.entries.length) % s.store.partition.jobSlots) ++
              le16 (s.store.jobs.entries.length + 1))).reevaluate))

/-- AMEND JOB: the checks of R25 in their order; an accepted amendment changes count, lane and urgency, a job whose count equals
placed with in-flight clear becomes COMPLETE and its transfer before the grip is abandoned, the reply carries state, count and
placed, and a re-evaluation follows; the entry is the one that carries the tag, with its slot and position (R22, R25, R26). That
tag 0 is answered OUT_OF_RANGE, by check 1 of R25, where R22 would answer TAG_UNKNOWN, is the model's choice (log 28). -/
def Obligations.AmendChangesALiveJob : Prop :=
  (∀ (s : State) (tag : Nat),
    (s.findTag tag = none ↔ ∀ j ∈ s.store.jobs.entries, j.tag ≠ tag) ∧
    (∀ e, s.findTag tag = some e ↔ ∃ i, s.store.jobs.entries[i]? = some e.job ∧ e.job.tag = tag ∧ e.pos = i + 1 ∧
      e.slot = (s.store.jobs.start + i) % s.store.partition.jobSlots ∧
      ∀ k < i, ∀ j, s.store.jobs.entries[k]? = some j → j.tag ≠ tag)) ∧
  ∀ (b : Body) (s : State), s.ready → b.payload.length = 6 →
    (u16 b.payload 0 = 0 ∨ u16 b.payload 2 = 0 ∨ 999 < u16 b.payload 2 ∨ (∀ l, u8 b.payload 4 ≠ jobLaneCode l) ∨
        1 < u8 b.payload 5 →
      exec (.amendJob b) s = .next (s.quiet.withReply 0x0D b .outOfRange [])) ∧
    (∀ (l : Option LaneNo) (urgent : Bool), u16 b.payload 0 ≠ 0 → u16 b.payload 2 ≠ 0 → u16 b.payload 2 ≤ 999 →
      u8 b.payload 4 = jobLaneCode l → u8 b.payload 5 = (if urgent then 1 else 0) →
      (s.findTag (u16 b.payload 0) = none →
        exec (.amendJob b) s = .next (s.quiet.withReply 0x0D b .tagUnknown [])) ∧
      (∀ e, s.findTag (u16 b.payload 0) = some e →
        exec (.amendJob b) s = .next
          (if e.job.live = false ∨ e.job.cancelPending = true ∨
              (l ≠ e.job.lane ∧ (e.job.state = .active ∨
                ∃ t, s.transfer = some t ∧ t.jobTag = e.job.tag ∧ t.jobSlot = e.slot)) ∨
              u16 b.payload 2 < e.job.placed + (if e.job.inFlight then 1 else 0) then
            s.quiet.withReply 0x0D b .jobState []
          else if u16 b.payload 2 = e.job.placed ∧ e.job.inFlight = false then
            (((((s.quiet.modifyJob e.slot fun j => { j with count := u16 b.payload 2, lane := l, urgent := urgent }).abandonFor
              e.slot e.job.tag).finishJob e.slot .complete none).withReply 0x0D b .ok
              ([2] ++ le16 (u16 b.payload 2) ++ le16 e.job.placed))).reevaluate
          else
            ((s.quiet.modifyJob e.slot fun j => { j with count := u16 b.payload 2, lane := l, urgent := urgent }).withReply
              0x0D b .ok ([byteOf e.job.state.code] ++ le16 (u16 b.payload 2) ++ le16 e.job.placed)).reevaluate)))

/-- CANCEL JOB: an unknown tag and a finished job are refused, a cancel already pending is DEFERRED, a job with a panel committed
gets cancel-pending and DEFERRED, and any other live job becomes CANCELLED at once, its transfer before the grip abandoned; a
cancel answered OK or DEFERRED is a re-evaluation event (R27, R28, R29, R100). -/
def Obligations.CancelNowOrDeferred : Prop :=
  ∀ (b : Body) (s : State), s.ready → b.payload.length = 2 →
    (s.findTag (u16 b.payload 0) = none →
      exec (.cancelJob b) s = .next (s.quiet.withReply 0x0E b .tagUnknown [])) ∧
    (∀ e, s.findTag (u16 b.payload 0) = some e →
      exec (.cancelJob b) s = .next
        (if e.job.live = false then s.quiet.withReply 0x0E b .jobState []
        else if e.job.cancelPending = true then (s.quiet.withReply 0x0E b .deferred []).reevaluate
        else if ∃ t, s.transfer = some t ∧ t.jobTag = e.job.tag ∧ t.jobSlot = e.slot ∧
            t.phase ∈ [Phase.lift, .toLane, .lower, .release, .rise, .toReject, .rejectLower, .rejectRelease, .rejectRise] then
          ((s.quiet.modifyJob e.slot fun j => { j with cancelPending := true }).withReply 0x0E b .deferred []).reevaluate
        else
          ((((s.quiet.abandonFor e.slot e.job.tag).finishJob e.slot .cancelled none)).withReply 0x0E b .ok []).reevaluate))

/-- A job that finishes: its entry takes the final state and reason with cancel-pending clear, its notice joins the FIFO or sets
job-notice-lost when the FIFO holds 16, and finished entries at the head retire, so that the head is live or the list empty;
a job is live while QUEUED or ACTIVE (R19, R35, R36, R178). -/
def Obligations.FinishingNotifiesAndRetires : Prop :=
  (∀ j : Job, j.live = true ↔ j.state = .queued ∨ j.state = .active) ∧
  ∀ (s : State) (slot : Nat) (j : Job) (st : JobState) (r : Option Reason), s.store.wf = true → s.jobAt slot = some j →
    ∃ store' notices', s.finishJob slot st r = { s with store := store', notices := notices' } ∧
      store' = { s.store with jobs := store'.jobs } ∧
      notices' =
        (if s.notices.fifo.length < 16 then
          { s.notices with fifo := s.notices.fifo ++ [{ tag := j.tag, final := st, reason := r, placed := j.placed,
                                                        rejected := j.rejected, lost := j.lost, clamped := j.clamped }] }
        else { s.notices with lost := true }) ∧
      (∃ k gone, s.indexOfSlot slot = some k ∧
        s.store.jobs.entries.set k { j with state := st, reason := r, cancelPending := false } =
          gone ++ store'.jobs.entries ∧
        (∀ g ∈ gone, g.live = false) ∧
        store'.jobs.start = (s.store.jobs.start + gone.length) % s.store.partition.jobSlots) ∧
      (∀ h ∈ store'.jobs.entries.head?, h.live = true)

/-! ## The stacks -/

/-- SET STACK (R43) and UNLOAD STACK (R48), each by its table. -/
def Obligations.StacksAreSetAndUnloaded : Prop :=
  ∀ (b : Body) (s : State), s.ready →
    (b.payload.length = 7 → (∀ k : StackNo, u8 b.payload 0 ≠ k.code) →
      exec (.setStack b) s = .next (s.quiet.withReply 0x12 b .outOfRange [])) ∧
    (∀ k : StackNo, b.payload.length = 7 → u8 b.payload 0 = k.code →
      exec (.setStack b) s = .next
        (if (s.stack k).present = true then s.quiet.withReply 0x12 b .stackBusy []
        else if (s.travel.xMin ≤ u16 b.payload 1 ∧ u16 b.payload 1 ≤ s.travel.xMax) ∧
            (s.travel.yMin ≤ u16 b.payload 3 ∧ u16 b.payload 3 ≤ s.travel.yMax) ∧
            (s.travel.zMin ≤ u16 b.payload 5 ∧ u16 b.payload 5 ≤ s.travel.zMax) then
          ({ s.quiet with stackTable := s.stackTable.set k { s.stack k with
              geometrySet := true, xs := u16 b.payload 1, ys := u16 b.payload 3, zf := u16 b.payload 5 } } :
            State).withReply 0x12 b .ok []
        else s.quiet.withReply 0x12 b .outOfRange [])) ∧
    (b.payload.length = 1 → (∀ k : StackNo, u8 b.payload 0 ≠ k.code) →
      exec (.unloadStack b) s = .next (s.quiet.withReply 0x14 b .outOfRange [])) ∧
    (∀ k : StackNo, b.payload.length = 1 → u8 b.payload 0 = k.code →
      ((∃ t, s.transfer = some t ∧ t.stack = k ∧ t.phase ∈ [Phase.toStack, .search, .grip]) →
        exec (.unloadStack b) s = .next (s.quiet.withReply 0x14 b .stackBusy [])) ∧
      ((∀ t, s.transfer = some t → t.stack = k → t.phase ∉ [Phase.toStack, .search, .grip]) →
        exec (.unloadStack b) s = .next
          (({ s.quiet with stackTable := s.stackTable.set k { s.stack k with present := false } } : State).withReply
            0x14 b .ok [])))

/-- LOAD STACK: the checks of R45 in their order; an accepted load makes the stack PRESENT with type and count, clears suspect,
leaves its notice flags, replies its top, and a re-evaluation follows (R44, R45, R46). -/
def Obligations.LoadStackFillsTheStack : Prop :=
  ∀ (b : Body) (s : State), s.ready → b.payload.length = 4 →
    ((∀ k : StackNo, u8 b.payload 0 ≠ k.code) →
      exec (.loadStack b) s = .next (s.quiet.withReply 0x13 b .outOfRange [])) ∧
    (∀ (k : StackNo) (top : Nat), u8 b.payload 0 = k.code →
      top = (s.stack k).zf + u16 b.payload 2 * (s.typeEntry (u8 b.payload 1)).thk →
      exec (.loadStack b) s = .next
        (if u16 b.payload 2 = 0 ∨ 500 < u16 b.payload 2 then s.quiet.withReply 0x13 b .outOfRange []
        else if s.store.partition.typeSlots ≤ u8 b.payload 1 ∨ lookupType s.store.types (u8 b.payload 1) = none then
          s.quiet.withReply 0x13 b .typeUndefined []
        else if (s.stack k).geometrySet = false then s.quiet.withReply 0x13 b .stackUnset []
        else if ∃ t, s.transfer = some t ∧ t.stack = k ∧ t.phase ∈ [Phase.toStack, .search, .grip] then
          s.quiet.withReply 0x13 b .stackBusy []
        else if (s.stack k).present = true ∧ (s.stack k).type ≠ u8 b.payload 1 ∧
            ∃ j ∈ s.store.jobs.entries, j.stack = k then s.quiet.withReply 0x13 b .stackType []
        else if (s.travel.ztravel : Int) - 1000 < top then s.quiet.withReply 0x13 b .stackHeight []
        else
          (({ s.quiet with stackTable := s.stackTable.set k { s.stack k with
              present := true, type := u8 b.payload 1, count := u16 b.payload 2, suspect := false } } :
            State).withReply 0x13 b .ok (le16 top)).reevaluate))

/-! ## The lanes -/

/-- SET LANE: the checks of R74 in their order; an accepted request stores the twelve values of R73, four of them clamped, sets
configured, and replies them as stored with OK_ADJUSTED when a value was clamped (R73, R74). -/
def Obligations.SetLaneStoresTheConfiguration : Prop :=
  ∀ (b : Body) (s : State), s.ready → b.payload.length = 20 →
    ((∀ l, u8 b.payload 0 ≠ laneCode l) →
      exec (.setLane b) s = .next (s.quiet.withReply 0x16 b .outOfRange [])) ∧
    (∀ l, u8 b.payload 0 = laneCode l → (s.lane l).state ≠ .parked →
      exec (.setLane b) s = .next (s.quiet.withReply 0x16 b .laneState [])) ∧
    (∀ l, u8 b.payload 0 = laneCode l → (s.lane l).state = .parked →
      (∀ g : Sign, u8 b.payload 5 ≠ g.code) ∨ (∀ g : Sign, u8 b.payload 6 ≠ g.code) ∨
        (∀ m : TimerMode, u8 b.payload 16 ≠ m.code) →
      exec (.setLane b) s = .next (s.quiet.withReply 0x16 b .outOfRange [])) ∧
    (∀ (l : LaneNo) (sx sy : Sign) (m : TimerMode) (c : LaneConfig), u8 b.payload 0 = laneCode l →
      (s.lane l).state = .parked → u8 b.payload 5 = sx.code → u8 b.payload 6 = sy.code → u8 b.payload 16 = m.code →
      c = { xf := u16 b.payload 1, yf := u16 b.payload 3, sx := sx, sy := sy, lt := u16 b.payload 7, wt := u16 b.payload 9,
            zt := u16 b.payload 11, hmax := max 10 (min 1200 (u16 b.payload 13)),
            countLimit := max 1 (min 12 (u8 b.payload 15)), timerMode := m,
            timerTime := max 1 (min 600 (u16 b.payload 17)), bookWait := min 120 (u8 b.payload 19) } →
      exec (.setLane b) s = .next
        (if ¬ ((s.travel.xMin ≤ c.xf ∧ c.xf ≤ s.travel.xMax) ∧ (s.travel.yMin ≤ c.yf ∧ c.yf ≤ s.travel.yMax) ∧
            (s.travel.zMin ≤ c.zt ∧ c.zt ≤ s.travel.zMax) ∧ (1 ≤ c.lt ∧ c.lt ≤ 65000) ∧ 1 ≤ c.wt ∧ c.wt ≤ 30000) then
          s.quiet.withReply 0x16 b .outOfRange []
        else if (s.travel.ztravel : Int) - 1000 < c.zt + c.hmax then s.quiet.withReply 0x16 b .travelConflict []
        else
          ({ s.quiet with lanes := s.lanes.set l { s.lane l with configured := true, cfg := c } } : State).withReply 0x16 b
            (if c.hmax = u16 b.payload 13 ∧ c.countLimit = u8 b.payload 15 ∧ c.timerTime = u16 b.payload 17 ∧
              c.bookWait = u8 b.payload 19 then .ok else .okAdjusted)
            (le16 c.xf ++ le16 c.yf ++ [byteOf sx.code, byteOf sy.code] ++ le16 c.lt ++ le16 c.wt ++ le16 c.zt ++
              le16 c.hmax ++ [byteOf c.countLimit, byteOf m.code] ++ le16 c.timerTime ++ [byteOf c.bookWait])))

/-- CLOSE BOOK acts by its table (R86), and the closing itself: HANDED with the book frozen, out of the filling order,
close-pending clear, book-wait timer stopped, lane timer started by the timer mode and dry run, HANDED flag and report set
(R84, R87, R94). -/
def Obligations.CloseBookActsByItsTable : Prop :=
  ∀ (b : Body) (s : State), s.ready → b.payload.length = 1 →
    ((∀ l, u8 b.payload 0 ≠ laneCode l) →
      exec (.closeBook b) s = .next (s.quiet.withReply 0x19 b .outOfRange [])) ∧
    (∀ l, u8 b.payload 0 = laneCode l →
      (s.lane l).state = .parked ∨ (s.lane l).state = .idle ∨ (∃ bk, (s.lane l).state = .handed bk) →
      exec (.closeBook b) s = .next (s.quiet.withReply 0x19 b .laneState [])) ∧
    (∀ l bk, u8 b.payload 0 = laneCode l → (s.lane l).state = .filling bk → (s.lane l).inbound = true →
      exec (.closeBook b) s = .next
        (({ s.quiet with lanes := s.lanes.set l { s.lane l with closePending := true } } : State).withReply 0x19 b
          .deferred [])) ∧
    (∀ l bk, u8 b.payload 0 = laneCode l → (s.lane l).state = .filling bk → (s.lane l).inbound = false →
      exec (.closeBook b) s = .next
        (({ s.quiet with
          lanes := s.lanes.set l { s.lane l with
            state := .handed bk, closePending := false, bookTimer := none, noteHanded := true, report := some bk,
            laneTimer := match (s.lane l).cfg.timerMode with
              | .off => if s.gantry.dryRun then some 1000 else none
              | .monitor => some ((s.lane l).cfg.timerTime * 1000)
              | .pace => some ((s.lane l).cfg.timerTime * 1000) },
          fillingOrder := s.fillingOrder.filter fun m => m != l } : State).withReply 0x19 b .ok []))

/-- PARK LANE acts by its table (R92); the closing of a book is that of R84. -/
def Obligations.ParkLaneActsByItsTable : Prop :=
  ∀ (b : Body) (s : State), s.ready → b.payload.length = 1 →
    ((∀ l, u8 b.payload 0 ≠ laneCode l) →
      exec (.parkLane b) s = .next (s.quiet.withReply 0x17 b .outOfRange [])) ∧
    (∀ l, u8 b.payload 0 = laneCode l →
      ((s.lane l).state = .parked → exec (.parkLane b) s = .next (s.quiet.withReply 0x17 b .ok [])) ∧
      ((s.lane l).state ≠ .parked → (s.lane l).parkRequest = true →
        exec (.parkLane b) s = .next (s.quiet.withReply 0x17 b .deferred [])) ∧
      ((s.lane l).parkRequest = false →
        ((s.lane l).state = .idle → (s.lane l).inbound = false →
          exec (.parkLane b) s = .next
            (({ s.quiet with
              lanes := s.lanes.set l { s.lane l with state := .parked, noteParked := true }
              idleQueue := s.idleQueue.filter fun e => e.lane != l } : State).withReply 0x17 b .ok [])) ∧
        ((s.lane l).state = .idle → (s.lane l).inbound = true →
          exec (.parkLane b) s = .next
            (({ s.quiet with
              lanes := s.lanes.set l { s.lane l with parkRequest := true }
              idleQueue := s.idleQueue.filter fun e => e.lane != l } : State).withReply 0x17 b .deferred [])) ∧
        (∀ bk, (s.lane l).state = .filling bk → (s.lane l).inbound = false →
          exec (.parkLane b) s = .next
            ((({ s.quiet with lanes := s.lanes.set l { s.lane l with parkRequest := true } } : State).closeBook l).withReply
              0x17 b .deferred [])) ∧
        ((∃ bk, (s.lane l).state = .filling bk ∧ (s.lane l).inbound = true) ∨ (∃ bk, (s.lane l).state = .handed bk) →
          exec (.parkLane b) s = .next
            (({ s.quiet with lanes := s.lanes.set l { s.lane l with parkRequest := true } } : State).withReply 0x17 b
              .deferred []))))

/-- UNPARK LANE acts by its table (R93): a lane that joins the idle queue does so at the tail with a new age, and brings a
re-evaluation (R79, R93, R100). -/
def Obligations.UnparkLaneActsByItsTable : Prop :=
  ∀ (b : Body) (s : State), s.ready → b.payload.length = 1 →
    ((∀ l, u8 b.payload 0 ≠ laneCode l) →
      exec (.unparkLane b) s = .next (s.quiet.withReply 0x18 b .outOfRange [])) ∧
    (∀ l, u8 b.payload 0 = laneCode l →
      ((s.lane l).configured = false →
        exec (.unparkLane b) s = .next (s.quiet.withReply 0x18 b .laneUnconfigured [])) ∧
      ((s.lane l).configured = true →
        ((s.lane l).state = .parked →
          exec (.unparkLane b) s = .next
            (({ s.quiet with
              lanes := s.lanes.set l { s.lane l with state := .idle }
              idleQueue := s.idleQueue ++ [{ lane := l, age := 0 }] } : State).withReply 0x18 b .ok []).reevaluate) ∧
        ((s.lane l).state = .idle → (s.lane l).parkRequest = true →
          exec (.unparkLane b) s = .next
            (({ s.quiet with
              lanes := s.lanes.set l { s.lane l with parkRequest := false }
              idleQueue := s.idleQueue ++ [{ lane := l, age := 0 }] } : State).withReply 0x18 b .ok []).reevaluate) ∧
        ((∃ bk, (s.lane l).state = .filling bk ∨ (s.lane l).state = .handed bk) →
          exec (.unparkLane b) s = .next
            (({ s.quiet with lanes := s.lanes.set l { s.lane l with parkRequest := false } } : State).withReply 0x18 b
              .ok [])) ∧
        ((s.lane l).state = .idle → (s.lane l).parkRequest = false →
          exec (.unparkLane b) s = .next (s.quiet.withReply 0x18 b .ok []))))

/-- The close test, step by step (R82, R83): an IDLE lane with park-request parks; a FILLING lane closes its book when
close-pending or park-request is set or the book cannot grow, and else starts its book-wait timer afresh; inbound and
close-pending clear in every case; other lanes and the rest of the part are untouched. -/
def Obligations.CloseTestDecidesTheBook : Prop :=
  ∀ (s : State) (l : LaneNo),
    ((s.lane l).state = .idle → s.closeTest l =
      { s with lanes := s.lanes.set l (if (s.lane l).parkRequest then
            { s.lane l with state := .parked, parkRequest := false, noteParked := true, inbound := false,
                            closePending := false }
          else { s.lane l with inbound := false, closePending := false }) }) ∧
    (∀ bk, (s.lane l).state = .filling bk →
      ((s.lane l).closePending = true ∨ (s.lane l).parkRequest = true ∨
          ¬ (bk.tags.length < (s.lane l).cfg.countLimit ∧
            bk.height + (s.typeEntry bk.key.type).thk ≤ (s.lane l).cfg.hmax ∧
            ∃ j ∈ s.store.jobs.entries.take s.modes.window, j.live = true ∧ j.cancelPending = false ∧
              1 ≤ j.count - (j.placed + (if j.inFlight then 1 else 0)) ∧ j.type = bk.key.type ∧
              j.pattern = bk.key.pattern ∧ j.rotation = bk.key.rotation ∧ (j.lane = none ∨ j.lane = some l)) →
        s.closeTest l = (s.closeBook l).setLane l { (s.closeBook l).lane l with inbound := false }) ∧
      ((s.lane l).closePending = false → (s.lane l).parkRequest = false →
        bk.tags.length < (s.lane l).cfg.countLimit → bk.height + (s.typeEntry bk.key.type).thk ≤ (s.lane l).cfg.hmax →
        (∃ j ∈ s.store.jobs.entries.take s.modes.window, j.live = true ∧ j.cancelPending = false ∧
          1 ≤ j.count - (j.placed + (if j.inFlight then 1 else 0)) ∧ j.type = bk.key.type ∧
          j.pattern = bk.key.pattern ∧ j.rotation = bk.key.rotation ∧ (j.lane = none ∨ j.lane = some l)) →
        s.closeTest l = { s with lanes := s.lanes.set l { s.lane l with
          inbound := false, closePending := false,
          bookTimer := if 0 < (s.lane l).cfg.bookWait then some ((s.lane l).cfg.bookWait * 1000)
            else (s.lane l).bookTimer } }))

/-- TAKEN_PULSE, LANE_TIMER_EXPIRY and BOOK_WAIT_EXPIRY: the take-over, the stall, the spurious pulse and the closing by time
(R76, R85, R87, R88, R89, R90, R91). The expiry commands act only while their timer runs (log 4). -/
def Obligations.LanesAreTakenOverStalledAndClosed : Prop :=
  ∀ (s : State) (l : LaneNo) (off : Lane), s.resetHeld = false →
    off = { s.lane l with laneTimer := none, stalled := false } →
    (s.gantry.dryRun = true ∨ (s.lane l).cfg.timerMode = .pace → exec (.takenPulse l) s = .next s.quiet) ∧
    (s.gantry.dryRun = false → (s.lane l).cfg.timerMode ≠ .pace → (s.lane l).state.book = none ∨
        (∃ bk, (s.lane l).state = .filling bk) →
      exec (.takenPulse l) s = .next { s.quiet with lanes := s.lanes.set l { s.lane l with noteSpurious := true } }) ∧
    (∀ bk c, (s.lane l).state = .handed bk →
      (c = .takenPulse l ∧ s.gantry.dryRun = false ∧ (s.lane l).cfg.timerMode ≠ .pace) ∨
        (c = .laneTimerExpiry l ∧ (s.lane l).laneTimer.isSome = true ∧
          (s.gantry.dryRun = true ∨ (s.lane l).cfg.timerMode ≠ .monitor)) →
      ((s.lane l).parkRequest = true → exec c s = .next { s.quiet with
        lanes := s.lanes.set l { off with state := .parked, parkRequest := false, noteParked := true } }) ∧
      ((s.lane l).parkRequest = false → exec c s = .next ({ s.quiet with
        lanes := s.lanes.set l { off with state := .idle }
        idleQueue := s.idleQueue ++ [{ lane := l, age := 0 }] } : State).reevaluate)) ∧
    (∀ bk, (s.lane l).state = .handed bk → (s.lane l).laneTimer.isSome = true → s.gantry.dryRun = false →
      (s.lane l).cfg.timerMode = .monitor →
      exec (.laneTimerExpiry l) s = .next { s.quiet with
        lanes := s.lanes.set l { s.lane l with laneTimer := none, stalled := true, noteStalled := true } }) ∧
    ((s.lane l).laneTimer = none → exec (.laneTimerExpiry l) s = .next s.quiet) ∧
    ((s.lane l).bookTimer.isSome = true → (s.lane l).inbound = false →
      exec (.bookWaitExpiry l) s = .next (s.quiet.closeBook l)) ∧
    ((s.lane l).bookTimer = none ∨ (s.lane l).inbound = true → exec (.bookWaitExpiry l) s = .next s.quiet)

/-- SAW_READY_RISE changes the level and re-evaluates, SAW_READY_FALL changes the level only, and STARVE_CROSSING makes the lane
and those before it in the idle queue as old as the starve time and re-evaluates (R76, R100, R102). In dry run a rise is no event,
and the crossing's ages are the model's (log 17, log 25). -/
def Obligations.SawReadyAndStarvingReevaluate : Prop :=
  ∀ (s : State) (l : LaneNo), s.resetHeld = false →
    exec (.sawReadyRise l) s = .next
      (if s.gantry.dryRun then { s.quiet with inputs := { s.inputs with sawReady := s.inputs.sawReady.set l true } }
      else ({ s.quiet with inputs := { s.inputs with sawReady := s.inputs.sawReady.set l true } } : State).reevaluate) ∧
    exec (.sawReadyFall l) s = .next
      { s.quiet with inputs := { s.inputs with sawReady := s.inputs.sawReady.set l false } } ∧
    (s.modes.starve = 0 ∨ (∀ e ∈ s.idleQueue, e.lane ≠ l) → exec (.starveCrossing l) s = .next s.quiet) ∧
    (∀ before e after, 0 < s.modes.starve → s.idleQueue = before ++ e :: after → e.lane = l →
      (∀ x ∈ before, x.lane ≠ l) →
      exec (.starveCrossing l) s = .next ({ s.quiet with
        idleQueue := before.map (fun x => { x with age := max x.age (s.modes.starve * 1000) }) ++
          { e with age := max e.age (s.modes.starve * 1000) } :: after } : State).reevaluate)

/-! ## The dispatcher -/

/-- RUN and HOLD set the run mode and answer OK in every gantry state; RUN re-evaluates (R98). A re-evaluation causes no attempt
while the gantry is not IDLE, the mode is HOLD, the safety line is asserted or a fault entry is present (R99). -/
def Obligations.RunAndHoldSetTheMode : Prop :=
  (∀ (b : Body) (s : State), s.ready → b.payload = [] →
    exec (.run b) s = .next (({ s.quiet with runMode := .run } : State).withReply 0x1C b .ok []).reevaluate ∧
    exec (.hold b) s = .next (({ s.quiet with runMode := .hold } : State).withReply 0x1D b .ok [])) ∧
  (∀ s : State, s.gantry.state ≠ .idle ∨ s.runMode = .hold ∨ s.inputs.safety = true ∨ s.fault.entry.isSome = true →
    s.reevaluate = s)

/-- The scan of an attempt (R37, R77, R102 to R107). In every state a match is an eligible job of the window on a lane open to
selection that takes it. In a state with sound lists: the lanes come in the order starved, filling, idle, each only if open,
and for each lane the jobs come urgent first; a pair of lane and job matches when the job is eligible, its lane is this lane or
ANY, and the verdict is a match; the hit is the first pair that matches, and there is one exactly when some pair does; the jobs
weighed before it with a failing verdict fail, once each, in the order they were reached, and nothing else changes. -/
def Obligations.MatchIsOpenAndEligible : Prop :=
  (∀ (s : State) (h : Hit), s.scan.hit = some h →
    ((s.lane h.lane).state = .idle ∨ ∃ bk, (s.lane h.lane).state = .filling bk) ∧ (s.lane h.lane).parkRequest = false ∧
    (s.lane h.lane).inbound = false ∧ (s.gantry.dryRun = true ∨ s.inputs.sawReady.get h.lane = true) ∧
    (∃ e ∈ s.window, e.slot = h.slot) ∧ s.scan.state.jobAt h.slot = some h.job ∧
    h.job.live = true ∧ h.job.cancelPending = false ∧
    1 ≤ h.job.count - (h.job.placed + (if h.job.inFlight then 1 else 0)) ∧
    (s.stack h.job.stack).present = true ∧ (s.stack h.job.stack).suspect = false ∧ 1 ≤ (s.stack h.job.stack).count ∧
    (s.stack h.job.stack).type = h.job.type ∧ (h.job.lane = none ∨ h.job.lane = some h.lane) ∧
    s.scan.state.verdict h.job h.lane = .found h.placing) ∧
  (∀ (s : State) (i : Nat) (e : Located), s.window[i]? = some e ↔
    i < s.modes.window ∧ s.store.jobs.entries[i]? = some e.job ∧ e.pos = i + 1 ∧
    e.slot = (s.store.jobs.start + i) % s.store.partition.jobSlots) ∧
  (∀ (s : State) (opens : LaneNo → Bool) (starves : IdleEntry → Bool) (weighs : LaneNo × Located → Bool)
      (pairs reached : List (LaneNo × Located)),
    s.store.wf = true → s.ListsExact →
    (∀ l, opens l = true ↔ ((s.lane l).state = .idle ∨ ∃ bk, (s.lane l).state = .filling bk) ∧
      (s.lane l).parkRequest = false ∧ (s.lane l).inbound = false ∧
      (s.gantry.dryRun = true ∨ s.inputs.sawReady.get l = true)) →
    (∀ e, starves e = true ↔ 0 < s.modes.starve ∧ s.modes.starve * 1000 ≤ e.age) →
    (∀ l e, weighs (l, e) = true ↔ e.job.live = true ∧ e.job.cancelPending = false ∧
      1 ≤ e.job.count - (e.job.placed + (if e.job.inFlight then 1 else 0)) ∧
      (s.stack e.job.stack).present = true ∧ (s.stack e.job.stack).suspect = false ∧ 1 ≤ (s.stack e.job.stack).count ∧
      (s.stack e.job.stack).type = e.job.type ∧ (e.job.lane = none ∨ e.job.lane = some l)) →
    pairs = ((((s.idleQueue.filter starves).map IdleEntry.lane) ++ s.fillingOrder ++
        ((s.idleQueue.filter fun e => !starves e).map IdleEntry.lane)).filter opens).flatMap (fun l =>
          ((s.window.filter fun e => e.job.urgent) ++ s.window.filter fun e => !e.job.urgent).map fun e => (l, e)) →
    (∀ h, s.scan.hit = some h ↔ ∃ before e after, pairs = before ++ (h.lane, e) :: after ∧ h.slot = e.slot ∧
      h.job = e.job ∧ weighs (h.lane, e) = true ∧ s.verdict e.job h.lane = .found h.placing ∧
      ∀ q ∈ before, weighs q = true → ∀ p, s.verdict q.2.job q.1 ≠ .found p) ∧
    (s.scan.hit = none ↔ ∀ q ∈ pairs, weighs q = true → ∀ p, s.verdict q.2.job q.1 ≠ .found p) ∧
    ((s.scan.hit = none ∧ reached = pairs) ∨
        (∃ e after p, pairs = reached ++ e :: after ∧ weighs e = true ∧ s.verdict e.2.job e.1 = .found p ∧
          ∀ q ∈ reached, weighs q = true → ∀ p, s.verdict q.2.job q.1 ≠ .found p) →
      ∀ fails : List (Nat × Reason),
        fails = (reached.filterMap fun q => match weighs q, s.verdict q.2.job q.1 with
          | true, .fail r => some (q.2.slot, r)
          | _, _ => none).eraseDups →
        s.scan.state = fails.foldl (fun u f => u.finishJob f.1 .failed (some f.2)) s ∧
        (s.scan.failed = true ↔ fails ≠ [])))

/-- The verdict of R70, test by test in its order, and the values of a match (R59 to R61, R63, R64, R66 to R68, R71): a pick
point out of reach fails with REACH; a fixed lane that does not fit fails the job with FIT, one that fits and does not reach it
with REACH; lane ANY is skipped while some configured lane fits and reaches, and else fails with FIT; then the lane takes the
job or it is skipped. -/
def Obligations.VerdictFollowsItsTests : Prop :=
  ∀ (s : State) (j : Job) (l : LaneNo) (e : TypeEntry) (pickX pickY : Option Coord) (placeX placeY : LaneNo → Option Coord)
      (fits reaches : LaneNo → Prop),
    e = s.typeEntry j.type →
    pickX = limitTest ((s.stack j.stack).xs + halve s.modes.rounding e.len) s.travel.xMin s.travel.xMax s.modes.clampTol →
    pickY = limitTest ((s.stack j.stack).ys + halve s.modes.rounding e.wid) s.travel.yMin s.travel.yMax s.modes.clampTol →
    (∀ m, placeX m = limitTest ((s.lane m).cfg.xf + (if (s.lane m).cfg.sx = .plus then (1 : Int) else -1) *
      halve s.modes.rounding (footX e j.rotation)) s.travel.xMin s.travel.xMax s.modes.clampTol) →
    (∀ m, placeY m = limitTest ((s.lane m).cfg.yf + (if (s.lane m).cfg.sy = .plus then (1 : Int) else -1) *
      halve s.modes.rounding (footY e j.rotation)) s.travel.yMin s.travel.yMax s.modes.clampTol) →
    (∀ m, fits m ↔ footX e j.rotation ≤ (s.lane m).cfg.lt ∧ footY e j.rotation ≤ (s.lane m).cfg.wt ∧
      e.thk ≤ (s.lane m).cfg.hmax) →
    (∀ m, reaches m ↔ (placeX m).isSome = true ∧ (placeY m).isSome = true ∧ s.travel.zMin ≤ (s.lane m).cfg.zt) →
    (pickX = none ∨ pickY = none → s.verdict j l = .fail .reach) ∧
    (∀ px py, pickX = some px → pickY = some py →
      (j.lane = some l → ¬ fits l → s.verdict j l = .fail .fit) ∧
      (j.lane = some l → fits l → ¬ reaches l → s.verdict j l = .fail .reach) ∧
      (j.lane = none → ¬ (fits l ∧ reaches l) →
        ((∃ m, (s.lane m).configured = true ∧ fits m ∧ reaches m) → s.verdict j l = .skip) ∧
        ((∀ m, (s.lane m).configured = true → ¬ (fits m ∧ reaches m)) → s.verdict j l = .fail .fit)) ∧
      (∀ qx qy, fits l → reaches l → placeX l = some qx → placeY l = some qy →
        ((s.lane l).state = .idle → s.verdict j l = .found
          { mask := e.mask, pick := { x := px, y := py }, place := { x := qx, y := qy },
            ze := (s.stack j.stack).zf + (s.stack j.stack).count * e.thk, placeZ := (s.lane l).cfg.zt + e.thk }) ∧
        (∀ bk, (s.lane l).state = .filling bk →
          (bk.key = { type := j.type, pattern := j.pattern, rotation := j.rotation } ∧
              bk.height + e.thk ≤ (s.lane l).cfg.hmax ∧ bk.tags.length < (s.lane l).cfg.countLimit →
            s.verdict j l = .found
              { mask := e.mask, pick := { x := px, y := py }, place := { x := qx, y := qy },
                ze := (s.stack j.stack).zf + (s.stack j.stack).count * e.thk,
                placeZ := (s.lane l).cfg.zt + bk.height + e.thk }) ∧
          (bk.key ≠ { type := j.type, pattern := j.pattern, rotation := j.rotation } ∨
              (s.lane l).cfg.hmax < bk.height + e.thk ∨ (s.lane l).cfg.countLimit ≤ bk.tags.length →
            s.verdict j l = .skip)) ∧
        ((s.lane l).state = .parked ∨ (∃ bk, (s.lane l).state = .handed bk) → s.verdict j l = .skip)))

/-- A selection: the record with the values of the match in TO_STACK, inbound set and the book-wait timer stopped on the lane, the
gantry CYCLING with X, Y and C issued, or in dry run with their modelled move begun; a fault input found asserted outside dry
run is a fault at that entry. A scan without a match changes nothing, or, if it failed a job, is followed by a fresh attempt
(R107, R108, R109, R110, R114, R119, R151, R153). That the faults found are taken after the targets are issued is the model's
reading (log 24). -/
def Obligations.SelectionCreatesTheRecord : Prop :=
  ∀ s : State, s.gantry.state = .idle → s.runMode = .run → s.inputs.safety = false → s.fault.entry = none →
    (s.scan.hit = none → s.scan.failed = false → s.reevaluate = s) ∧
    (s.scan.hit = none → s.scan.failed = true → s.reevaluate = s.scan.state.reevaluate) ∧
    (∀ (h : Hit) (u : State), s.scan.hit = some h →
      u = { s.scan.state with
        transfer := some {
          jobTag := h.job.tag, jobSlot := h.slot, stack := h.job.stack, lane := h.lane,
          key := { type := h.job.type, pattern := h.job.pattern, rotation := h.job.rotation }, mask := h.placing.mask,
          pickX := h.placing.pick.x.pos, pickY := h.placing.pick.y.pos, placeX := h.placing.place.x.pos,
          placeY := h.placing.place.y.pos, clampPickX := h.placing.pick.x.clamped, clampPickY := h.placing.pick.y.clamped,
          clampPlaceX := h.placing.place.x.clamped, clampPlaceY := h.placing.place.y.clamped, ze := h.placing.ze,
          placeZ := h.placing.placeZ, window := none, phase := .toStack, leg := .first, attempts := 0, zc := none,
          held := false, rejectZ := none },
        lanes := s.lanes.set h.lane { s.lane h.lane with inbound := true, bookTimer := none },
        gantry := { s.gantry with
          state := .cycling, lastX := h.placing.pick.x.pos, lastY := h.placing.pick.y.pos } } →
      (s.gantry.dryRun = true → s.reevaluate = { u with gantry := { u.gantry with
        move := .modelled s.modes.dryMove [goTo .x h.placing.pick.x.pos, goTo .y h.placing.pick.y.pos, goTo .c 0] } }) ∧
      (s.gantry.dryRun = false → s.inputs.assertedFaults = [] → s.reevaluate = { u with gantry := { u.gantry with
        move := .awaiting { x := true, y := true, z := false, c := true },
        driveOut := s.gantry.driveOut ++ [.target { axis := .x, pos := h.placing.pick.x.pos, search := false },
          .target { axis := .y, pos := h.placing.pick.y.pos, search := false },
          .target { axis := .c, pos := 0, search := false }] } }) ∧
      (∀ k more, s.gantry.dryRun = false → s.inputs.assertedFaults = k :: more → s.reevaluate = { u with
        gripCounter := .stopped, releaseCounter := .stopped, blowOff := false, valves := 0,
        gantry := { u.gantry with
          state := .fault, move := .still,
          driveOut := s.gantry.driveOut ++ [.target { axis := .x, pos := h.placing.pick.x.pos, search := false },
            .target { axis := .y, pos := h.placing.pick.y.pos, search := false },
            .target { axis := .c, pos := 0, search := false }] ++
            (k :: more).flatMap fun _ => [.stop .x, .stop .y, .stop .z, .stop .c] },
        fault := {
          entry := some {
            kind := k, found := .cycling, remembered := none, phase := some .toStack, jobTag := some h.job.tag,
            held := false, lastX := h.placing.pick.x.pos, lastY := h.placing.pick.y.pos, lastZ := s.gantry.lastZ,
            further := more.length },
          note := true, reportKind := some k, reportCount := more.length } })) ∧
    (∀ k : FaultKind, k ∈ s.inputs.assertedFaults ↔ (k = .driveX ∧ s.inputs.driveFault.x = true) ∨
      (k = .driveY ∧ s.inputs.driveFault.y = true) ∨ (k = .driveZ ∧ s.inputs.driveFault.z = true) ∨
      (k = .driveC ∧ s.inputs.driveFault.c = true) ∨ (k = .limit ∧ s.inputs.limit = true)) ∧
    (s.inputs.assertedFaults.map FaultKind.code).Pairwise (· < ·)

/-! ## Gantry Control -/

/-- HOME and homing (R138, R139, R153): the table of R138; the entry into step 1; each completed step; in dry run each step
lasts the dry move time; a fault input found asserted at the acceptance is a fault event at once. That it comes before the reply
is built is the model's reading (log 13), and so is that Z's home command stands on the port before the stop commands (log 24). -/
def Obligations.HomingTakesThreeSteps : Prop :=
  (∀ (b : Body) (s : State), s.ready → b.payload = [] →
    (s.gantry.state ≠ .unhomed → s.gantry.state ≠ .idle →
      exec (.home b) s = .next (s.quiet.withReply 0x1B b .gantryState [])) ∧
    (s.gantry.state = .unhomed ∨ s.gantry.state = .idle →
      (s.inputs.safety = true → exec (.home b) s = .next (s.quiet.withReply 0x1B b .safetyActive [])) ∧
      (s.inputs.safety = false → s.gantry.dryRun = false → s.inputs.assertedFaults = [] →
        exec (.home b) s = .next (({ s.quiet with
          gantry := { s.gantry with
            state := .homing .one, move := .awaiting { x := false, y := false, z := true, c := false },
            driveOut := [.home .z] } } : State).withReply 0x1B b .ok [])) ∧
      (s.inputs.safety = false → s.gantry.dryRun = true →
        exec (.home b) s = .next (({ s.quiet with
          gantry := { s.quiet.gantry with state := .homing .one, move := .modelled s.modes.dryMove [] } } :
          State).withReply 0x1B b .ok [])) ∧
      (∀ k more, s.inputs.safety = false → s.gantry.dryRun = false → s.fault.entry = none →
        s.inputs.assertedFaults = k :: more → exec (.home b) s = .next (({ s.quiet with
          gripCounter := .stopped, releaseCounter := .stopped, blowOff := false
          valves := if s.holding then s.valves else 0
          gantry := { s.gantry with
            state := .fault, move := .still,
            driveOut := [.home .z] ++ (k :: more).flatMap fun _ => [.stop .x, .stop .y, .stop .z, .stop .c] }
          fault := {
            entry := some {
              kind := k, found := .homing, remembered := none, phase := s.transfer.map Transfer.phase,
              jobTag := s.transfer.map Transfer.jobTag, held := s.holding, lastX := s.gantry.lastX,
              lastY := s.gantry.lastY, lastZ := s.gantry.lastZ, further := more.length },
            note := true, reportKind := some k, reportCount := more.length } } : State).withReply 0x1B b .ok [])))) ∧
  (∀ s : State,
    (s.gantry.state = .homing .one → s.gantry.dryRun = false → s.inputs.safety = false → s.completeMove =
      { s with gantry := { s.gantry with
          state := .homing .two, move := .awaiting { x := true, y := true, z := false, c := true },
          driveOut := s.gantry.driveOut ++ [.home .x, .home .y, .home .c] } }) ∧
    (s.gantry.state = .homing .two → s.gantry.dryRun = false → s.inputs.safety = false → s.completeMove =
      { s with gantry := { s.gantry with
          state := .homing .three, lastZ := s.travel.ztravel,
          move := .awaiting { x := false, y := false, z := true, c := false },
          driveOut := s.gantry.driveOut ++ [.target { axis := .z, pos := s.travel.ztravel, search := false }] } }) ∧
    (s.gantry.state = .homing .three → s.gantry.dryRun = false → s.completeMove =
      ({ s with gantry := { s.gantry with state := .idle, noteHomed := true, move := .still } } : State).reevaluate) ∧
    (s.gantry.state = .homing .one → s.gantry.dryRun = true → s.completeMove =
      { s with gantry := { s.gantry with state := .homing .two, move := .modelled s.modes.dryMove [] } }) ∧
    (s.gantry.state = .homing .two → s.gantry.dryRun = true → s.completeMove =
      { s with gantry := { s.gantry with
          state := .homing .three, lastZ := s.travel.ztravel,
          move := .modelled s.modes.dryMove [{ axis := .z, pos := s.travel.ztravel, search := false }] } }) ∧
    (s.gantry.state = .homing .three → s.gantry.dryRun = true → s.completeMove =
      ({ s with gantry := { s.gantry with
          state := .idle, noteHomed := true, move := .still,
          head := some { x := 0, y := 0, z := s.travel.ztravel, c := 0 } } } : State).reevaluate))

/-- HALT and the safety line halt a HOMING, IDLE, CYCLING or ABORTING gantry in the same way, change nothing in UNHOMED, HALTED
or FAULT, and give nothing up: only stops, the remembered state, the HALTED flag and the paused counters change (R140, R141,
R142). The line's release changes its level only. Under the reset pin see ResetPinSilencesThePart. -/
def Obligations.HaltStopsWithoutGivingUp : Prop :=
  ∀ s : State,
    (∀ (r : Remembered) (g : GantryCtl) (grip release : Counter),
      ((∃ h, s.gantry.state = .homing h) ∧ r = .homing) ∨ (s.gantry.state = .idle ∧ r = .idle) ∨
        (s.gantry.state = .cycling ∧ r = .cycling) ∨ (s.gantry.state = .aborting ∧ r = .aborting) →
      g = { s.gantry with
        state := .halted r, noteHalted := true, move := .still,
        driveOut := if s.gantry.dryRun then [] else [.stop .x, .stop .y, .stop .z, .stop .c] } →
      (grip = match s.gripCounter with | .running n => .paused n | .stopped => .stopped | .paused n => .paused n) →
      (release = match s.releaseCounter with | .running n => .paused n | .stopped => .stopped | .paused n => .paused n) →
      (∀ b : Body, s.ready → b.payload = [] → exec (.halt b) s =
        .next (({ s.quiet with gantry := g, gripCounter := grip, releaseCounter := release } : State).withReply 0x1E b
          .ok [])) ∧
      (s.resetHeld = false → exec .safetyLineAsserted s =
        .next { s.quiet with
          gantry := g, gripCounter := grip, releaseCounter := release, inputs := { s.inputs with safety := true } })) ∧
    (s.gantry.state = .unhomed ∨ (∃ r, s.gantry.state = .halted r) ∨ s.gantry.state = .fault →
      (∀ b : Body, s.ready → b.payload = [] → exec (.halt b) s = .next (s.quiet.withReply 0x1E b .ok [])) ∧
      (s.resetHeld = false →
        exec .safetyLineAsserted s = .next { s.quiet with inputs := { s.inputs with safety := true } })) ∧
    (s.resetHeld = false → exec .safetyLineReleased s = .next { s.quiet with inputs := { s.inputs with safety := false } })

/-- RESUME: SAFETY_ACTIVE, then GANTRY_STATE; else the remembered state is restored and its work taken up by the table of R143, a
put-down phase as its entry gives (R143, R146, R147). A contact found asserted as the approach descent is issued afresh is the
contact event, at the position the Z drive reports at that moment (R120): the operand `z` of the command is the model's choice
(log 5), that the event comes before the reply its reading (log 13). -/
def Obligations.ResumeTakesTheWorkUpAgain : Prop :=
  ∀ (b : Body) (z : Nat) (s : State), s.ready → b.payload = [] →
    (s.inputs.safety = true → exec (.resume b z) s = .next (s.quiet.withReply 0x1F b .safetyActive [])) ∧
    (s.inputs.safety = false → (∀ r, s.gantry.state ≠ .halted r) →
      exec (.resume b z) s = .next (s.quiet.withReply 0x1F b .gantryState [])) ∧
    (s.inputs.safety = false → s.gantry.state = .halted .idle →
      exec (.resume b z) s = .next (({ s.quiet with gantry := { s.quiet.gantry with state := .idle } } : State).withReply
        0x1F b .ok []).reevaluate) ∧
    (s.inputs.safety = false → s.gantry.state = .halted .homing → s.gantry.dryRun = false →
      exec (.resume b z) s = .next (({ s.quiet with
        gantry := { s.gantry with
          state := .homing .one, move := .awaiting { x := false, y := false, z := true, c := false },
          driveOut := [.home .z] } } : State).withReply 0x1F b .ok [])) ∧
    (∀ t, s.inputs.safety = false → s.gantry.state = .halted .cycling → s.transfer = some t →
      (∀ ts : List Target,
        (t.phase = .toStack ∧ ts = [goTo .x t.pickX, goTo .y t.pickY, goTo .c 0]) ∨
          ((t.phase = .lift ∨ t.phase = .retreat) ∧ ts = [goTo .z s.travel.ztravel]) ∨
          (t.phase = .toLane ∧ ts = [goTo .x t.placeX, goTo .y t.placeY, goTo .c t.key.rotation.degrees]) ∨
          (t.phase = .lower ∧ ts = [goTo .z t.placeZ]) ∨
          (t.phase = .rise ∧ ts = [goTo .z s.travel.ztravel, goTo .c 0]) →
        exec (.resume b z) s = .next
          ((({ s.quiet with gantry := { s.quiet.gantry with state := .cycling } } : State).issue ts).withReply
            0x1F b .ok [])) ∧
      (∀ w : SearchWindow, t.phase = .search →
        w = { start := max (t.ze + 200) s.travel.zMin, limit := max (t.ze - s.modes.contactTol) s.travel.zMin,
              tolerance := s.modes.contactTol } →
        (s.inputs.contact = false ∨ s.gantry.dryRun = true → exec (.resume b z) s = .next
          ((({ s.quiet with
            transfer := some { t with window := some w, leg := .first }
            gantry := { s.quiet.gantry with state := .cycling } } : State).issue [goTo .z w.start]).withReply
              0x1F b .ok [])) ∧
        (s.inputs.contact = true → s.gantry.dryRun = false → exec (.resume b z) s = .next
          (((({ s.quiet with
            transfer := some { t with window := some w, leg := .first }
            gantry := { s.quiet.gantry with state := .cycling } } : State).issue [goTo .z w.start]).contactEvent z).withReply
              0x1F b .ok []))) ∧
      (t.phase = .grip → exec (.resume b z) s = .next (({ s.quiet with
        gripCounter := .running (s.modes.settleOf (s.typeEntry t.key.type).cls)
        gantry := { s.quiet.gantry with state := .cycling } } : State).withReply 0x1F b .ok [])) ∧
      (t.phase = .release → exec (.resume b z) s = .next (({ s.quiet with
        releaseCounter := .running s.modes.release
        gantry := { s.quiet.gantry with state := .cycling } } : State).withReply 0x1F b .ok []))) ∧
    (∀ t, s.inputs.safety = false → s.gantry.state = .halted .aborting → s.transfer = some t →
      (t.phase = .toReject → s.gantry.move = .still → exec (.resume b z) s = .next
        ((({ s.quiet with
          transfer := some { t with leg := .first }
          gantry := { s.quiet.gantry with state := .aborting } } : State).issue [goTo .z s.travel.ztravel]).withReply
            0x1F b .ok [])) ∧
      (∀ p, t.phase = .rejectLower ∧ t.rejectZ = some p ∨ t.phase = .rejectRise ∧ p = s.travel.ztravel →
        exec (.resume b z) s = .next
          ((({ s.quiet with gantry := { s.quiet.gantry with state := .aborting } } : State).issue [goTo .z p]).withReply
            0x1F b .ok [])) ∧
      (t.phase = .rejectRelease → exec (.resume b z) s = .next (({ s.quiet with
        releaseCounter := .running s.modes.release
        gantry := { s.quiet.gantry with state := .aborting } } : State).withReply 0x1F b .ok [])))

/-- ABORT acts by its table (R145), with the entry into RETREAT (R130), the abandonment before the grip (R131, R142) and the
entry into ABORTING (R146): X, Y and C moves in progress stop, reject Z is Zr + Tk, Z is issued Ztravel. A stop puts a stop
command to each axis named on its port and leaves the other moves awaited; in dry run none is issued and the modelled move is
dropped (R137). -/
def Obligations.AbortActsByItsTable : Prop :=
  (∀ (b : Body) (s : State), s.ready → b.payload = [] →
    (∀ t, s.gantry.state = .cycling → s.transfer = some t →
      (t.phase = .toStack ∨ t.phase = .search ∨ t.phase = .grip →
        exec (.abort b) s = .next (s.quiet.enterRetreat.withReply 0x20 b .ok [])) ∧
      (t.phase = .lift ∨ t.phase = .toLane ∨ t.phase = .lower →
        exec (.abort b) s = .next
          (((({ s.quiet with
            transfer := some { t with
              rejectZ := some (s.travel.zr + (s.typeEntry t.key.type).thk), phase := .toReject, leg := .first }
            gantry := { s.quiet.gantry with state := .aborting } } : State).stop s.sideMoves).issue
              [goTo .z s.travel.ztravel]).withReply 0x20 b .ok [])) ∧
      (t.phase = .release ∨ t.phase = .rise →
        exec (.abort b) s = .next (s.quiet.withReply 0x20 b .deferred [])) ∧
      (t.phase = .retreat → exec (.abort b) s = .next (s.quiet.withReply 0x20 b .nothingToAbort []))) ∧
    (s.gantry.state = .idle ∨ s.gantry.state = .unhomed ∨ s.gantry.state = .aborting →
      exec (.abort b) s = .next (s.quiet.withReply 0x20 b .nothingToAbort [])) ∧
    ((∃ h, s.gantry.state = .homing h) ∨ (∃ r, s.gantry.state = .halted r) ∨ s.gantry.state = .fault →
      exec (.abort b) s = .next (s.quiet.withReply 0x20 b .gantryState []))) ∧
  (∀ (s : State) (t : Transfer), s.transfer = some t →
    s.enterRetreat = ({ (s.stop s.sideMoves) with
      valves := 0, gripCounter := .stopped, transfer := some { t with phase := .retreat, leg := .first } } : State).issue
        [goTo .z s.travel.ztravel] ∧
    (∀ (slot tag : Nat),
      (t.jobSlot = slot → t.jobTag = tag → t.phase = .toStack ∨ t.phase = .search ∨ t.phase = .grip →
        (s.gantry.state = .cycling → s.abandonFor slot tag = s.enterRetreat) ∧
        (s.gantry.state = .halted .cycling → s.abandonFor slot tag =
          { s with
            valves := 0, gripCounter := .stopped, transfer := some { t with phase := .retreat, leg := .first } }) ∧
        (s.gantry.state = .fault → s.abandonFor slot tag = s)) ∧
      (t.jobSlot ≠ slot ∨ t.jobTag ≠ tag ∨ (t.phase ≠ .toStack ∧ t.phase ≠ .search ∧ t.phase ≠ .grip) →
        s.abandonFor slot tag = s))) ∧
  (∀ (s : State) (axes : List Axis),
    (s.gantry.dryRun = true → s.stop axes = { s with gantry := { s.gantry with move := .still } }) ∧
    (∀ left : AxisSet, s.gantry.dryRun = false →
      (∀ a, left.get a = true ↔ a ∉ axes ∧ ∃ awaited, s.gantry.move = .awaiting awaited ∧ awaited.get a = true) →
      s.stop axes = { s with gantry := { s.gantry with
        driveOut := s.gantry.driveOut ++ axes.map DriveCommand.stop
        move := if left = { x := false, y := false, z := false, c := false } then .still else .awaiting left } })) ∧
  (∀ s : State, s.sideMoves = match s.gantry.move with
    | .awaiting axes =>
      (if axes.x then [.x] else []) ++ (if axes.y then [.y] else []) ++ (if axes.c then [.c] else [])
    | _ => [])

/-! ## The transfer -/

/-- The contact event stores Zc, stops Z and is judged: within the tolerance stored with the window the transfer enters GRIP,
else the stack is suspect and the transfer retreats (R62, R120 to R123). CONTACT_ASSERTED is that event in SEARCH; elsewhere
it is not read. GRIP_SETTLE_EXPIRY acts by the table of R124; a grip takes a board off the stack (R31, R50, R51, R125), and
HOLD-LOST found asserted at the entry into LIFT is a DROP (R126, R154 to R156). The settle time is that of the type's class
(R9); for an entry without a class it is a free value (log 15). The model's choices: the line commands carry
the level (log 3), the expiry acts whenever the counter runs (log 4), GRIP-LEVEL and the Z drive's report are operands (log 5),
and the DROP found is taken after the target of LIFT is issued (log 24). -/
def Obligations.ContactAndGripDecideTheBoard : Prop :=
  (∀ m : Modes, m.settleOf 1 = m.settle1 ∧ m.settleOf 2 = m.settle2 ∧ m.settleOf 3 = m.settle3 ∧ m.settleOf 4 = m.settle4) ∧
  ∀ (s : State) (t : Transfer), s.resetHeld = false → s.transfer = some t →
    (∀ (z : Nat) (w : SearchWindow), t.window = some w →
      (z ≤ t.ze + w.tolerance ∧ t.ze ≤ z + w.tolerance → s.contactEvent z = { (s.stop [.z]) with
        transfer := some { t with zc := some z, phase := .grip, leg := .first, attempts := 1 }
        valves := t.mask
        gripCounter := .running (s.modes.settleOf (s.typeEntry t.key.type).cls) }) ∧
      (t.ze + w.tolerance < z ∨ z + w.tolerance < t.ze → s.contactEvent z = ({ (s.stop [.z]) with
        transfer := some { t with zc := some z }
        stackTable := s.stackTable.set t.stack { s.stack t.stack with suspect := true, suspectFlag := true } } :
        State).enterRetreat)) ∧
    (∀ (level : Bool) (z : Nat) (u : State), u = { s.quiet with inputs := { s.inputs with contact := level, zReport := z } } →
      (level = false ∨ s.gantry.state ≠ .cycling ∨ s.gantry.dryRun = true ∨ t.phase ≠ .search →
        exec (.contactAsserted level z) s = .next u) ∧
      (∀ w, level = true → s.gantry.state = .cycling → s.gantry.dryRun = false → t.phase = .search → t.window = some w →
        (z ≤ t.ze + w.tolerance ∧ t.ze ≤ z + w.tolerance → exec (.contactAsserted level z) s =
          .next { (u.stop [.z]) with
            transfer := some { t with zc := some z, phase := .grip, leg := .first, attempts := 1 }
            valves := t.mask
            gripCounter := .running (s.modes.settleOf (s.typeEntry t.key.type).cls) }) ∧
        (t.ze + w.tolerance < z ∨ z + w.tolerance < t.ze → exec (.contactAsserted level z) s =
          .next ({ (u.stop [.z]) with
            transfer := some { t with zc := some z }
            stackTable := s.stackTable.set t.stack { s.stack t.stack with suspect := true, suspectFlag := true } } :
            State).enterRetreat))) ∧
    (∀ level : Bool,
      (s.gantry.state ≠ .cycling ∨ t.phase ≠ .grip ∨ (∀ n, s.gripCounter ≠ .running n) →
        exec (.gripSettleExpiry level) s = .next s.quiet) ∧
      (∀ n, s.gantry.state = .cycling → t.phase = .grip → s.gripCounter = .running n →
        (level = true ∨ s.gantry.dryRun = true → s.inputs.holdLost = false ∨ s.gantry.dryRun = true →
          exec (.gripSettleExpiry level) s = .next
            (({ s.quiet with
              stackTable := s.stackTable.set t.stack { s.stack t.stack with
                count := (s.stack t.stack).count - 1
                emptyFlag := (s.stack t.stack).emptyFlag || (s.stack t.stack).count - 1 == 0 }
              store := (s.onRecordJob fun j => { j with
                inFlight := true, state := if j.state = .queued then .active else j.state }).store
              transfer := some { t with held := true, phase := .lift, leg := .first }
              gripCounter := .stopped } : State).issue [goTo .z s.travel.ztravel])) ∧
        (∀ v : State, level = true → s.gantry.dryRun = false → s.inputs.holdLost = true → s.fault.entry = none →
          v = ({ s.quiet with
            stackTable := s.stackTable.set t.stack { s.stack t.stack with
              count := (s.stack t.stack).count - 1
              emptyFlag := (s.stack t.stack).emptyFlag || (s.stack t.stack).count - 1 == 0 }
            store := (s.onRecordJob fun j => { j with
              inFlight := true, state := if j.state = .queued then .active else j.state }).store
            transfer := some { t with held := true, phase := .lift, leg := .first }
            gripCounter := .stopped } : State).issue [goTo .z s.travel.ztravel] →
          exec (.gripSettleExpiry level) s = .next { v with
            gantry := { v.gantry with
              state := .fault, move := .still,
              driveOut := v.gantry.driveOut ++ [.stop .x, .stop .y, .stop .z, .stop .c] }
            releaseCounter := .stopped, blowOff := false, valves := 0
            transfer := some { t with held := false, phase := .lift, leg := .first }
            store := (v.onRecordJob fun j => { j with lost := min 999 (j.lost + 1), inFlight := false }).store
            fault := {
              entry := some {
                kind := .drop, found := .cycling, remembered := none, phase := some .lift, jobTag := some t.jobTag,
                held := true, lastX := v.gantry.lastX, lastY := v.gantry.lastY, lastZ := v.gantry.lastZ, further := 0 }
              note := true, reportKind := some .drop, reportCount := 0 } }) ∧
        (level = false → s.gantry.dryRun = false → t.attempts < 2 → exec (.gripSettleExpiry level) s =
          .next { s.quiet with
            transfer := some { t with attempts := 2 }
            gripCounter := .running (s.modes.settleOf (s.typeEntry t.key.type).cls) }) ∧
        (level = false → s.gantry.dryRun = false → 2 ≤ t.attempts → exec (.gripSettleExpiry level) s =
          .next ({ s.quiet with
            valves := 0
            stackTable := s.stackTable.set t.stack { s.stack t.stack with suspect := true, suspectFlag := true } } :
            State).enterRetreat)))

/-- Reports and dry moves (R118, R139, R151): a report that is stale, in dry run, from an axis not awaited, or of the other kind
than the step waits for has no effect; one of several awaited axes is ticked off; the last completes the move; in dry run the
modelled head takes the targets as DRY_MOVE_ELAPSED completes it. Expiry commands act only on a modelled move (log 4); stale and
the Z drive's report are operands (log 8, log 5); at the end of a search descent the completed move, the contact, then puts the
modelled head at Zc, not at the search limit it had been issued (the model's reading, log 23; CompletedMovesAdvanceThePhase). -/
def Obligations.ReportsCompleteMoves : Prop :=
  ∀ s : State, s.resetHeld = false →
    (∀ (c : Instr) (a : Axis) (stale homed : Bool) (u : State),
      (homed = false ∧ ∃ z, c = .inPositionReport a stale z ∧ u = { s.quiet with inputs := { s.inputs with zReport := z } }) ∨
        (homed = true ∧ c = .homedReport a stale ∧ u = s.quiet) →
      (stale = true ∨ s.gantry.dryRun = true ∨
          (homed = true ∧ s.gantry.state ≠ .homing .one ∧ s.gantry.state ≠ .homing .two) ∨
          (homed = false ∧ (s.gantry.state = .homing .one ∨ s.gantry.state = .homing .two)) ∨
          (∀ axes, s.gantry.move = .awaiting axes → axes.get a = false) →
        exec c s = .next u) ∧
      (∀ axes, stale = false → s.gantry.dryRun = false →
        (homed = true ↔ s.gantry.state = .homing .one ∨ s.gantry.state = .homing .two) →
        s.gantry.move = .awaiting axes → axes.get a = true →
        ((∃ o, o ≠ a ∧ axes.get o = true) →
          exec c s = .next { u with gantry := { u.gantry with move := .awaiting (axes.set a false) } }) ∧
        ((∀ o, o ≠ a → axes.get o = false) → exec c s = .next u.completeMove))) ∧
    (∀ n ts h, s.gantry.move = .modelled n ts → s.gantry.head = some h →
      exec .dryMoveElapsed s = .next ({ s.quiet with
        gantry := { s.quiet.gantry with
          head := some (ts.foldl (fun h t => match t.axis with
            | .x => { h with x := t.pos }
            | .y => { h with y := t.pos }
            | .z => { h with z := t.pos }
            | .c => { h with c := t.pos }) h) } } : State).completeMove) ∧
    ((∀ n ts, s.gantry.move ≠ .modelled n ts) → exec .dryMoveElapsed s = .next s.quiet)

/-- What the completion of a move phase does (R118, R119, R120, R125, R127, R129, R130, R146, R147): the next phase is entered with
its targets issued, or the transfer ends: a cancel-pending record job is CANCELLED, the close test runs, the record goes, the
gantry is IDLE and a re-evaluation follows. A contact found asserted as the approach descent is issued, or at the search limit, is
the contact event, at the Z drive's report of the command that completes the move (the operand of IN_POSITION_REPORT is the
model's choice, log 5); in dry run the search descent ends with a contact at Ze and the modelled head there (log 23). -/
def Obligations.CompletedMovesAdvanceThePhase : Prop :=
  ∀ (s u : State) (t : Transfer), s.transfer = some t →
    u = { s with gantry := { s.gantry with move := .still } } →
    (s.gantry.state = .cycling →
      (∀ w : SearchWindow, t.phase = .toStack → s.inputs.contact = false ∨ s.gantry.dryRun = true →
        w = { start := max (t.ze + 200) s.travel.zMin, limit := max (t.ze - s.modes.contactTol) s.travel.zMin,
              tolerance := s.modes.contactTol } →
        s.completeMove = ({ u with transfer := some { t with phase := .search, leg := .first, window := some w } } :
          State).issue [goTo .z w.start]) ∧
      (∀ w : SearchWindow, t.phase = .toStack → s.inputs.contact = true → s.gantry.dryRun = false →
        w = { start := max (t.ze + 200) s.travel.zMin, limit := max (t.ze - s.modes.contactTol) s.travel.zMin,
              tolerance := s.modes.contactTol } →
        s.completeMove = (({ u with transfer := some { t with phase := .search, leg := .first, window := some w } } :
          State).issue [goTo .z w.start]).contactEvent s.inputs.zReport) ∧
      (∀ w, t.phase = .search → t.leg = .first → t.window = some w →
        s.completeMove = ({ u with transfer := some { t with leg := .second } } : State).issue [searchTo w.limit]) ∧
      (t.phase = .search → t.leg = .second → s.gantry.dryRun = true → s.completeMove =
        ({ u with gantry := { u.gantry with head := s.gantry.head.map fun h => { h with z := t.ze } } } :
          State).contactEvent t.ze) ∧
      (t.phase = .search → t.leg = .second → s.gantry.dryRun = false → s.inputs.contact = true →
        s.completeMove = u.contactEvent s.inputs.zReport) ∧
      (t.phase = .search → t.leg = .second → s.gantry.dryRun = false → s.inputs.contact = false →
        s.completeMove = ({ u with
          stackTable := s.stackTable.set t.stack { s.stack t.stack with suspect := true, suspectFlag := true } } :
          State).enterRetreat) ∧
      (t.phase = .lift → s.completeMove = ({ u with transfer := some { t with phase := .toLane, leg := .first } } :
        State).issue [goTo .x t.placeX, goTo .y t.placeY, goTo .c t.key.rotation.degrees]) ∧
      (t.phase = .toLane → s.completeMove = ({ u with transfer := some { t with phase := .lower, leg := .first } } :
        State).issue [goTo .z t.placeZ]) ∧
      (t.phase = .lower → s.completeMove = { u with
        transfer := some { t with phase := .release, leg := .first, held := false }
        valves := 0
        blowOff := true
        releaseCounter := .running s.modes.release })) ∧
    (s.gantry.state = .aborting →
      (t.phase = .toReject → t.leg = .first → s.completeMove = ({ u with transfer := some { t with leg := .second } } :
        State).issue [goTo .x s.travel.xr, goTo .y s.travel.yr, goTo .c 0]) ∧
      (∀ z, t.phase = .toReject → t.leg = .second → t.rejectZ = some z → s.completeMove =
        ({ u with transfer := some { t with phase := .rejectLower, leg := .first } } : State).issue [goTo .z z]) ∧
      (t.phase = .rejectLower → s.completeMove = { u with
        transfer := some { t with phase := .rejectRelease, leg := .first, held := false }
        valves := 0
        releaseCounter := .running s.modes.release })) ∧
    ((s.gantry.state = .cycling ∧ (t.phase = .rise ∨ t.phase = .retreat)) ∨
        (s.gantry.state = .aborting ∧ t.phase = .rejectRise) →
      ((∀ j, s.recordJob = some j → j.cancelPending = false) → s.completeMove =
        (({ (u.closeTest t.lane) with
          transfer := none, gantry := { u.gantry with state := .idle } } : State)).reevaluate) ∧
      (∀ j, s.recordJob = some j → j.cancelPending = true → s.completeMove =
        (({ ((u.finishJob t.jobSlot .cancelled none).closeTest t.lane) with
          transfer := none, gantry := { u.gantry with state := .idle } } : State)).reevaluate))

/-- RELEASE_SETTLE_EXPIRY: in RELEASE the board is counted, a job that has its count is COMPLETE, the board is placed on the lane
and RISE is entered (R31, R65, R81, R128); in REJECT_RELEASE the board is counted rejected and REJECT_RISE entered (R32, R147). It
acts only while the counter runs (log 4). A job effect of the transfer is applied to the entry in the record's slot, and only if
that entry carries the record's tag; no other entry changes (R21, R33). -/
def Obligations.ReleaseCountsTheBoard : Prop :=
  (∀ s : State, s.store.wf = true →
    (∀ slot j, s.jobAt slot = some j ↔ ∃ i, s.store.jobs.entries[i]? = some j ∧
      slot = (s.store.jobs.start + i) % s.store.partition.jobSlots) ∧
    (∀ slot f, ∃ entries, s.modifyJob slot f =
        { s with store := { s.store with jobs := { s.store.jobs with entries := entries } } } ∧
      ∀ i : Nat, entries[i]? = if slot = (s.store.jobs.start + i) % s.store.partition.jobSlots
        then s.store.jobs.entries[i]?.map f else s.store.jobs.entries[i]?)) ∧
  (∀ s : State, (s.holding = true ↔ ∃ t, s.transfer = some t ∧ t.held = true) ∧
    (∀ j, s.recordJob = some j ↔ ∃ t, s.transfer = some t ∧ s.jobAt t.jobSlot = some j ∧ j.tag = t.jobTag) ∧
    (∀ f, s.recordJob = none → s.onRecordJob f = s) ∧
    (∀ t j f, s.transfer = some t → s.recordJob = some j → s.onRecordJob f = s.modifyJob t.jobSlot f)) ∧
  ∀ (s : State) (t : Transfer), s.resetHeld = false → s.transfer = some t →
    (∀ (n thk : Nat) (p q r : State), s.gantry.state = .cycling → t.phase = .release → s.releaseCounter = .running n →
      thk = (s.typeEntry t.key.type).thk → p = { s.quiet with blowOff := false, releaseCounter := .stopped } →
      ((s.recordJob = none ∧ q = p) ∨ (∃ j m, s.recordJob = some j ∧
        m = (p.modifyJob t.jobSlot fun j => { j with
          placed := j.placed + 1, inFlight := false,
          clamped := if t.clampPickX || t.clampPickY || t.clampPlaceX || t.clampPlaceY then min 999 (j.clamped + 1)
            else j.clamped }) ∧
        q = if j.live = true ∧ j.placed + 1 = j.count then m.finishJob t.jobSlot .complete none else m)) →
      ((∃ bk, (s.lane t.lane).state = .filling bk ∧ r = { q with
          lanes := s.lanes.set t.lane { s.lane t.lane with
            state := .filling { bk with tags := bk.tags ++ [t.jobTag], height := bk.height + thk } } }) ∨
        ((s.lane t.lane).state = .idle ∧ r = { q with
          lanes := s.lanes.set t.lane { s.lane t.lane with
            state := .filling { key := t.key, tags := [t.jobTag], height := thk } }
          idleQueue := s.idleQueue.filter fun e => e.lane != t.lane
          fillingOrder := s.fillingOrder ++ [t.lane] })) →
      exec .releaseSettleExpiry s = .next (({ r with transfer := some { t with phase := .rise, leg := .first } } :
        State).issue [goTo .z s.travel.ztravel, goTo .c 0])) ∧
    (∀ n, s.gantry.state = .aborting → t.phase = .rejectRelease → s.releaseCounter = .running n →
      exec .releaseSettleExpiry s = .next (({ s.quiet with
        releaseCounter := .stopped
        store := (s.onRecordJob fun j => { j with rejected := min 999 (j.rejected + 1), inFlight := false }).store
        transfer := some { t with phase := .rejectRise, leg := .first } } : State).issue [goTo .z s.travel.ztravel])) ∧
    ((∀ n, s.releaseCounter ≠ .running n) ∨ (s.gantry.state = .cycling ∧ t.phase ≠ .release) ∨
        (s.gantry.state = .aborting ∧ t.phase ≠ .rejectRelease) ∨
        (s.gantry.state ≠ .cycling ∧ s.gantry.state ≠ .aborting) →
      exec .releaseSettleExpiry s = .next s.quiet)

/-! ## Faults -/

/-- The first fault creates the entry from the state just before it, stops every axis and the counters, and leaves a held board
under vacuum; a further fault is counted, saturating at 15; a DROP lets the board go and counts it lost (R126, R153, R154, R155,
R156, R157, R158). That the line commands carry the level, false for the line's fall, is the model's choice (log 3). -/
def Obligations.FaultsAreRecorded : Prop :=
  ∀ (s : State) (c : Instr) (k : FaultKind) (level : Bool) (u : State), s.resetHeld = false →
    (∃ i, u = { s.quiet with inputs := i } ∧
      ((∃ a, c = .driveFaultAsserted a level ∧ i = { s.inputs with driveFault := s.inputs.driveFault.set a level } ∧
          k = match a with | .x => .driveX | .y => .driveY | .z => .driveZ | .c => .driveC) ∨
        (c = .limitAsserted level ∧ i = { s.inputs with limit := level } ∧ k = .limit) ∨
        (c = .dropFault level ∧ i = { s.inputs with holdLost := level } ∧ k = .drop))) →
    (level = false ∨ s.gantry.dryRun = true ∨ s.gantry.state = .unhomed ∨ s.gantry.state = .idle ∨
        (k = .drop ∧ (s.holding = false ∨ ∃ h, s.gantry.state = .homing h)) →
      exec c s = .next u) ∧
    (level = true → s.gantry.dryRun = false → s.gantry.state ≠ .unhomed → s.gantry.state ≠ .idle →
      (k = .drop → s.holding = true ∧ ∀ h, s.gantry.state ≠ .homing h) →
      (∀ e v, s.fault.entry = some e →
        v = { u with
          gantry := { s.gantry with driveOut := [.stop .x, .stop .y, .stop .z, .stop .c], move := .still }
          fault := { s.fault with
            entry := some { e with further := min 15 (e.further + 1) }, note := true,
            reportCount := min 15 (e.further + 1) } } →
        (k ≠ .drop → exec c s = .next v) ∧
        (∀ t, k = .drop → s.transfer = some t → exec c s = .next { v with
          valves := 0, transfer := some { t with held := false },
          store := (s.onRecordJob fun j => { j with lost := min 999 (j.lost + 1), inFlight := false }).store })) ∧
      (∀ f v, s.fault.entry = none →
        ((∃ h, s.gantry.state = .homing h) ∧ f = .homing) ∨ (s.gantry.state = .cycling ∧ f = .cycling) ∨
          (s.gantry.state = .aborting ∧ f = .aborting) ∨ ((∃ r, s.gantry.state = .halted r) ∧ f = .halted) →
        v = { u with
          gantry := { s.gantry with
            state := .fault, driveOut := [.stop .x, .stop .y, .stop .z, .stop .c], move := .still },
          gripCounter := .stopped, releaseCounter := .stopped, blowOff := false,
          valves := if s.holding then s.valves else 0,
          fault := {
            entry := some {
              kind := k, found := f, remembered := match s.gantry.state with | .halted r => some r | _ => none,
              phase := s.transfer.map Transfer.phase, jobTag := s.transfer.map Transfer.jobTag, held := s.holding,
              lastX := s.gantry.lastX, lastY := s.gantry.lastY, lastZ := s.gantry.lastZ, further := 0 },
            note := true, reportKind := some k, reportCount := 0 } } →
        (k ≠ .drop → exec c s = .next v) ∧
        (∀ t, k = .drop → s.transfer = some t → exec c s = .next { v with
          valves := 0, transfer := some { t with held := false },
          store := (s.onRecordJob fun j => { j with lost := min 999 (j.lost + 1), inFlight := false }).store })))

/-- RELEASE HELD acts by its table (R160): the board is let go and counted lost; in HALTED the remembered work becomes RETREAT
under CYCLING; in FAULT the recorded phase and the entry stay. -/
def Obligations.ReleaseHeldLetsTheBoardGo : Prop :=
  ∀ (b : Body) (s : State), s.ready → b.payload = [] →
    (s.gantry.state = .unhomed ∨ (∃ h, s.gantry.state = .homing h) ∨ s.gantry.state = .idle ∨ s.gantry.state = .cycling ∨
        s.gantry.state = .aborting →
      exec (.releaseHeld b) s = .next (s.quiet.withReply 0x22 b .gantryState [])) ∧
    (s.gantry.state = .fault ∨ (∃ r, s.gantry.state = .halted r) →
      s.transfer = none ∨ (∃ t, s.transfer = some t ∧ t.held = false) →
      exec (.releaseHeld b) s = .next (s.quiet.withReply 0x22 b .nothingToAbort [])) ∧
    (∀ (t : Transfer) (st : Store), s.transfer = some t → t.held = true →
      st = (s.onRecordJob fun j => { j with lost := min 999 (j.lost + 1), inFlight := false }).store →
      (s.gantry.state = .fault → exec (.releaseHeld b) s = .next
        (({ s.quiet with valves := 0, transfer := some { t with held := false }, store := st } : State).withReply
          0x22 b .ok [])) ∧
      (∀ r, s.gantry.state = .halted r → exec (.releaseHeld b) s = .next
        (({ s.quiet with
          valves := 0, store := st
          transfer := some { t with held := false, phase := .retreat, leg := .first }
          gantry := { s.quiet.gantry with state := .halted .cycling } } : State).withReply 0x22 b .ok [])))

/-- CLEAR FAULT: its checks in their order; an accepted one settles the record (the uncounted board lost, a pending cancel made,
the close test, the record removed), removes the entry and leaves the gantry UNHOMED, the notice flag and the report as they stand
(R161). -/
def Obligations.ClearFaultSettlesTheRecord : Prop :=
  ∀ (b : Body) (s : State), s.ready → b.payload = [] →
    (s.inputs.safety = true → exec (.clearFault b) s = .next (s.quiet.withReply 0x21 b .safetyActive [])) ∧
    (s.inputs.safety = false → s.gantry.state ≠ .fault →
      exec (.clearFault b) s = .next (s.quiet.withReply 0x21 b .gantryState [])) ∧
    (∀ t, s.inputs.safety = false → s.gantry.state = .fault → s.transfer = some t → t.held = true →
      exec (.clearFault b) s = .next (s.quiet.withReply 0x21 b .panelHeld [])) ∧
    (s.inputs.safety = false → s.gantry.state = .fault → s.transfer = none →
      exec (.clearFault b) s = .next (({ s.quiet with
        gantry := { s.quiet.gantry with state := .unhomed }, fault := { s.fault with entry := none } } : State).withReply
          0x21 b .ok [])) ∧
    (∀ (t : Transfer) (u v : State), s.inputs.safety = false → s.gantry.state = .fault → s.transfer = some t →
      t.held = false →
      ((∃ j, s.recordJob = some j ∧ j.inFlight = true ∧ u =
          s.quiet.modifyJob t.jobSlot fun j => { j with lost := min 999 (j.lost + 1), inFlight := false }) ∨
        ((∀ j, s.recordJob = some j → j.inFlight = false) ∧ u = s.quiet)) →
      ((∃ j, s.recordJob = some j ∧ j.cancelPending = true ∧ v = u.finishJob t.jobSlot .cancelled none) ∨
        ((∀ j, s.recordJob = some j → j.cancelPending = false) ∧ v = u)) →
      exec (.clearFault b) s = .next (({ (v.closeTest t.lane) with
        transfer := none, gantry := { s.quiet.gantry with state := .unhomed },
        fault := { s.fault with entry := none } } : State).withReply 0x21 b .ok []))

/-! ## Settings -/

/-- SET MODES: its checks in their order, with the conditions of R149; an accepted one clamps each number into its range, stores
all values together and replies them, OK_ADJUSTED when one was clamped; dry run is entered and left as R150 states; every
accepted one is a re-evaluation event (R149, R150, R179). -/
def Obligations.SetModesClampsAndStores : Prop :=
  ∀ (b : Body) (s : State), s.ready → b.payload.length = 21 →
    ((∀ r : Rounding, u8 b.payload 0 ≠ r.code) ∨ 1 < u8 b.payload 4 →
      exec (.setModes b) s = .next (s.quiet.withReply 0x03 b .outOfRange [])) ∧
    (∀ (r : Rounding) (dry : Bool) (m : Modes) (reply : State → State), u8 b.payload 0 = r.code →
      u8 b.payload 4 = (if dry then 1 else 0) →
      m = { rounding := r, window := max 1 (min 16 (u8 b.payload 1)), starve := min 600 (u16 b.payload 2),
            dryMove := max 50 (min 5000 (u16 b.payload 5)), settle1 := max 50 (min 2000 (u16 b.payload 7)),
            settle2 := max 50 (min 2000 (u16 b.payload 9)), settle3 := max 50 (min 2000 (u16 b.payload 11)),
            settle4 := max 50 (min 2000 (u16 b.payload 13)), release := max 20 (min 500 (u16 b.payload 15)),
            contactTol := max 10 (min 200 (u16 b.payload 17)), clampTol := min 50 (u16 b.payload 19) } →
      (reply = fun v => v.withReply 0x03 b
        (if m.window = u8 b.payload 1 ∧ m.starve = u16 b.payload 2 ∧ m.dryMove = u16 b.payload 5 ∧
            m.settle1 = u16 b.payload 7 ∧ m.settle2 = u16 b.payload 9 ∧ m.settle3 = u16 b.payload 11 ∧
            m.settle4 = u16 b.payload 13 ∧ m.release = u16 b.payload 15 ∧ m.contactTol = u16 b.payload 17 ∧
            m.clampTol = u16 b.payload 19 then .ok else .okAdjusted)
        ([byteOf r.code, byteOf m.window] ++ le16 m.starve ++ [if dry then 1 else 0] ++ le16 m.dryMove ++ le16 m.settle1 ++
          le16 m.settle2 ++ le16 m.settle3 ++ le16 m.settle4 ++ le16 m.release ++ le16 m.contactTol ++ le16 m.clampTol)) →
      (dry ≠ s.gantry.dryRun →
        ¬ ((s.gantry.state = .unhomed ∨ s.gantry.state = .idle) ∧ s.holding = false ∧
          ∀ l, (s.lane l).state = .parked ∨ (s.lane l).state = .idle) →
        exec (.setModes b) s = .next (s.quiet.withReply 0x03 b .gantryState [])) ∧
      (dry = s.gantry.dryRun → exec (.setModes b) s = .next (reply { s.quiet with modes := m }).reevaluate) ∧
      (dry ≠ s.gantry.dryRun → s.gantry.state = .unhomed ∨ s.gantry.state = .idle → s.holding = false →
        (∀ l, (s.lane l).state = .parked ∨ (s.lane l).state = .idle) →
        exec (.setModes b) s = .next (reply { s.quiet with
          modes := m,
          gantry := if dry then
              { s.quiet.gantry with
                dryRun := true, head := some { x := 0, y := 0, z := s.travel.ztravel, c := 0 },
                state := if s.inputs.safety then .halted .idle else .idle,
                noteHalted := s.inputs.safety || s.gantry.noteHalted }
            else { s.quiet.gantry with dryRun := false, head := none, state := .unhomed } }).reevaluate))

/-- SET TRAVEL: the checks of R180 in their order; an accepted one stores the ten values, and an IDLE gantry becomes UNHOMED when
Ztravel changed, or in dry run stays IDLE with the modelled head's Z at the new Ztravel (R180, R181). -/
def Obligations.SetTravelChecksAndStores : Prop :=
  ∀ (b : Body) (s : State) (t : Travel), s.ready → b.payload.length = 20 →
    t = { xMin := u16 b.payload 0, xMax := u16 b.payload 2, yMin := u16 b.payload 4, yMax := u16 b.payload 6,
          zMin := u16 b.payload 8, zMax := u16 b.payload 10, ztravel := u16 b.payload 12, xr := u16 b.payload 14,
          yr := u16 b.payload 16, zr := u16 b.payload 18 } →
    ((∃ h, s.gantry.state = .homing h) ∨ s.gantry.state = .cycling ∨ s.gantry.state = .aborting ∨
        (∃ r, s.gantry.state = .halted r) →
      exec (.setTravel b) s = .next (s.quiet.withReply 0x04 b .gantryState [])) ∧
    (s.gantry.state = .unhomed ∨ s.gantry.state = .idle ∨ s.gantry.state = .fault →
      (¬ (t.xMin < t.xMax ∧ t.xMax ≤ 65000 ∧ t.yMin < t.yMax ∧ t.yMax ≤ 30000 ∧ t.zMin < t.zMax ∧ t.zMax ≤ 25000 ∧
          Between t.zMin t.zMax t.ztravel ∧ Between t.xMin t.xMax t.xr ∧ Between t.yMin t.yMax t.yr ∧
          Between t.zMin t.zMax t.zr) →
        exec (.setTravel b) s = .next (s.quiet.withReply 0x04 b .outOfRange [])) ∧
      (t.xMin < t.xMax ∧ t.xMax ≤ 65000 ∧ t.yMin < t.yMax ∧ t.yMax ≤ 30000 ∧ t.zMin < t.zMax ∧ t.zMax ≤ 25000 ∧
          Between t.zMin t.zMax t.ztravel ∧ Between t.xMin t.xMax t.xr ∧ Between t.yMin t.yMax t.yr ∧
          Between t.zMin t.zMax t.zr →
        ((∃ k, (s.stack k).present = true ∧
            t.ztravel < (s.stack k).zf + (s.stack k).count * (s.typeEntry (s.stack k).type).thk + 1000) ∨
          (∃ l, (s.lane l).configured = true ∧ t.ztravel < (s.lane l).cfg.zt + (s.lane l).cfg.hmax + 1000) ∨
          t.ztravel < t.zr + 1000 →
          exec (.setTravel b) s = .next (s.quiet.withReply 0x04 b .travelConflict [])) ∧
        ((∀ k, (s.stack k).present = true →
            (s.stack k).zf + (s.stack k).count * (s.typeEntry (s.stack k).type).thk + 1000 ≤ t.ztravel) →
          (∀ l, (s.lane l).configured = true → (s.lane l).cfg.zt + (s.lane l).cfg.hmax + 1000 ≤ t.ztravel) →
          t.zr + 1000 ≤ t.ztravel →
          exec (.setTravel b) s = .next (({ s.quiet with
            travel := t
            gantry := { s.quiet.gantry with
              state := if s.gantry.state = .idle ∧ s.gantry.dryRun = false ∧ t.ztravel ≠ s.travel.ztravel then .unhomed
                else s.gantry.state
              head := if s.gantry.state = .idle ∧ s.gantry.dryRun = true then
                  s.gantry.head.map fun h => { h with z := t.ztravel }
                else s.gantry.head } } : State).withReply 0x04 b .ok []))))

/-! ## Over every command -/

/-- Motion (R137): targets are issued to the drives only while the gantry is HOMING, CYCLING or ABORTING with the safety line clear
and outside dry run, each recorded as its axis's last target; in dry run they are recorded alone. No command ever puts a motion
command on a drive port with the safety line asserted or in dry run. -/
def Obligations.MotionWaitsForTheSafetyLine : Prop :=
  (∀ (s : State) (ts : List Target) (lastX lastY lastZ : Nat),
    lastX = ((ts.filter fun t => t.axis = .x).getLast?.map Target.pos).getD s.gantry.lastX →
    lastY = ((ts.filter fun t => t.axis = .y).getLast?.map Target.pos).getD s.gantry.lastY →
    lastZ = ((ts.filter fun t => t.axis = .z).getLast?.map Target.pos).getD s.gantry.lastZ →
    (s.gantry.dryRun = false → s.inputs.safety = true ∨ s.gantry.state = .unhomed ∨ s.gantry.state = .idle ∨
      s.gantry.state = .fault ∨ (∃ r, s.gantry.state = .halted r) → s.issue ts = s) ∧
    (s.gantry.dryRun = false → s.inputs.safety = false → (∃ h, s.gantry.state = .homing h) ∨ s.gantry.state = .cycling ∨
      s.gantry.state = .aborting → s.issue ts = { s with gantry := { s.gantry with
        lastX := lastX, lastY := lastY, lastZ := lastZ, driveOut := s.gantry.driveOut ++ ts.map DriveCommand.target,
        move := .awaiting { x := ts.any fun t => t.axis = .x, y := ts.any fun t => t.axis = .y,
                            z := ts.any fun t => t.axis = .z, c := ts.any fun t => t.axis = .c } } }) ∧
    (s.gantry.dryRun = true → s.issue ts = { s with gantry := { s.gantry with
      lastX := lastX, lastY := lastY, lastZ := lastZ, move := .modelled s.modes.dryMove ts } })) ∧
  (∀ (c : Instr) (s t : State), exec c s = .next t → ∀ d ∈ t.gantry.driveOut, d.isMotion = true →
    t.inputs.safety = false ∧ t.gantry.dryRun = false)

/-- Every step keeps the store in its canonical form, the tags of its entries apart, and a live entry at the head (R1, R21, R22,
R36). -/
def Obligations.StepKeepsTheStoreExact : Prop :=
  ∀ s t : State, s.StoreExact → step s = .next t → t.StoreExact

/-- Every step keeps the service lists exact: the idle queue holds the IDLE lanes without a park-request, the filling order the
FILLING lanes, each once, no PARKED lane carries a park-request, and every lane that is not PARKED is configured (R75, R79,
R93). -/
def Obligations.StepKeepsTheListsExact : Prop :=
  ∀ s t : State, s.ListsExact → step s = .next t → t.ListsExact

/-- Every step keeps gantry, record, held flag and valves in agreement: no valve is open but on the record's mask with held set or
in GRIP (R115, R116, R117, R155). -/
def Obligations.StepKeepsTheRecordExact : Prop :=
  ∀ s t : State, s.RecordExact → step s = .next t → t.RecordExact

/-- Every step keeps the settings and counts in their ranges, the gantry in FAULT exactly while the entry is present, and a frame
held only behind a reply (R154, R157, R168, R170, R171, R178, R179, R180). -/
def Obligations.StepKeepsRangesFaultAndLink : Prop :=
  ∀ s t : State, step s = .next t →
    (s.InRanges → t.InRanges) ∧ (s.FaultExact → t.FaultExact) ∧ (s.LinkExact → t.LinkExact)

/-- Every invariant of the four statements above holds right after reset. -/
def Obligations.InvariantsHoldAtReset : Prop :=
  State.reset.StoreExact ∧ State.reset.ListsExact ∧ State.reset.RecordExact ∧ State.reset.InRanges ∧
    State.reset.FaultExact ∧ State.reset.LinkExact
end

