-- ==== Sys2Proof/Laws/State.lean ====
section
/-! SUPPORT. One lemma per field per named update of State, true by rfl, so that no proof unfolds an update. -/

namespace Sys2Proof.Machine

variable (s : State)

/-! ### withPending -/

@[simp] theorem State.withPending_pending (q : List Instr) : (s.withPending q).pending = q := rfl
@[simp] theorem State.withPending_resetHeld (q : List Instr) : (s.withPending q).resetHeld = s.resetHeld := rfl
@[simp] theorem State.withPending_inputs (q : List Instr) : (s.withPending q).inputs = s.inputs := rfl
@[simp] theorem State.withPending_link (q : List Instr) : (s.withPending q).link = s.link := rfl
@[simp] theorem State.withPending_decoder (q : List Instr) : (s.withPending q).decoder = s.decoder := rfl
@[simp] theorem State.withPending_waiting (q : List Instr) : (s.withPending q).waiting = s.waiting := rfl
@[simp] theorem State.withPending_store (q : List Instr) : (s.withPending q).store = s.store := rfl
@[simp] theorem State.withPending_stackTable (q : List Instr) : (s.withPending q).stackTable = s.stackTable := rfl
@[simp] theorem State.withPending_lanes (q : List Instr) : (s.withPending q).lanes = s.lanes := rfl
@[simp] theorem State.withPending_idleQueue (q : List Instr) : (s.withPending q).idleQueue = s.idleQueue := rfl
@[simp] theorem State.withPending_fillingOrder (q : List Instr) : (s.withPending q).fillingOrder = s.fillingOrder := rfl
@[simp] theorem State.withPending_runMode (q : List Instr) : (s.withPending q).runMode = s.runMode := rfl
@[simp] theorem State.withPending_transfer (q : List Instr) : (s.withPending q).transfer = s.transfer := rfl
@[simp] theorem State.withPending_gripCounter (q : List Instr) : (s.withPending q).gripCounter = s.gripCounter := rfl
@[simp] theorem State.withPending_releaseCounter (q : List Instr) : (s.withPending q).releaseCounter = s.releaseCounter := rfl
@[simp] theorem State.withPending_valves (q : List Instr) : (s.withPending q).valves = s.valves := rfl
@[simp] theorem State.withPending_blowOff (q : List Instr) : (s.withPending q).blowOff = s.blowOff := rfl
@[simp] theorem State.withPending_gantry (q : List Instr) : (s.withPending q).gantry = s.gantry := rfl
@[simp] theorem State.withPending_fault (q : List Instr) : (s.withPending q).fault = s.fault := rfl
@[simp] theorem State.withPending_notices (q : List Instr) : (s.withPending q).notices = s.notices := rfl
@[simp] theorem State.withPending_modes (q : List Instr) : (s.withPending q).modes = s.modes := rfl
@[simp] theorem State.withPending_travel (q : List Instr) : (s.withPending q).travel = s.travel := rfl

/-! ### quiet -/

@[simp] theorem State.quiet_pending : s.quiet.pending = s.pending := rfl
@[simp] theorem State.quiet_resetHeld : s.quiet.resetHeld = s.resetHeld := rfl
@[simp] theorem State.quiet_inputs : s.quiet.inputs = s.inputs := rfl
@[simp] theorem State.quiet_link : s.quiet.link = s.link := rfl
@[simp] theorem State.quiet_decoder : s.quiet.decoder = s.decoder := rfl
@[simp] theorem State.quiet_waiting : s.quiet.waiting = s.waiting := rfl
@[simp] theorem State.quiet_store : s.quiet.store = s.store := rfl
@[simp] theorem State.quiet_stackTable : s.quiet.stackTable = s.stackTable := rfl
@[simp] theorem State.quiet_lanes : s.quiet.lanes = s.lanes := rfl
@[simp] theorem State.quiet_idleQueue : s.quiet.idleQueue = s.idleQueue := rfl
@[simp] theorem State.quiet_fillingOrder : s.quiet.fillingOrder = s.fillingOrder := rfl
@[simp] theorem State.quiet_runMode : s.quiet.runMode = s.runMode := rfl
@[simp] theorem State.quiet_transfer : s.quiet.transfer = s.transfer := rfl
@[simp] theorem State.quiet_gripCounter : s.quiet.gripCounter = s.gripCounter := rfl
@[simp] theorem State.quiet_releaseCounter : s.quiet.releaseCounter = s.releaseCounter := rfl
@[simp] theorem State.quiet_valves : s.quiet.valves = s.valves := rfl
@[simp] theorem State.quiet_blowOff : s.quiet.blowOff = s.blowOff := rfl
@[simp] theorem State.quiet_gantry : s.quiet.gantry = { s.gantry with driveOut := [] } := rfl
@[simp] theorem State.quiet_fault : s.quiet.fault = s.fault := rfl
@[simp] theorem State.quiet_notices : s.quiet.notices = s.notices := rfl
@[simp] theorem State.quiet_modes : s.quiet.modes = s.modes := rfl
@[simp] theorem State.quiet_travel : s.quiet.travel = s.travel := rfl

/-! ### setGantry -/

@[simp] theorem State.setGantry_pending (g : Gantry) : (s.setGantry g).pending = s.pending := rfl
@[simp] theorem State.setGantry_resetHeld (g : Gantry) : (s.setGantry g).resetHeld = s.resetHeld := rfl
@[simp] theorem State.setGantry_inputs (g : Gantry) : (s.setGantry g).inputs = s.inputs := rfl
@[simp] theorem State.setGantry_link (g : Gantry) : (s.setGantry g).link = s.link := rfl
@[simp] theorem State.setGantry_decoder (g : Gantry) : (s.setGantry g).decoder = s.decoder := rfl
@[simp] theorem State.setGantry_waiting (g : Gantry) : (s.setGantry g).waiting = s.waiting := rfl
@[simp] theorem State.setGantry_store (g : Gantry) : (s.setGantry g).store = s.store := rfl
@[simp] theorem State.setGantry_stackTable (g : Gantry) : (s.setGantry g).stackTable = s.stackTable := rfl
@[simp] theorem State.setGantry_lanes (g : Gantry) : (s.setGantry g).lanes = s.lanes := rfl
@[simp] theorem State.setGantry_idleQueue (g : Gantry) : (s.setGantry g).idleQueue = s.idleQueue := rfl
@[simp] theorem State.setGantry_fillingOrder (g : Gantry) : (s.setGantry g).fillingOrder = s.fillingOrder := rfl
@[simp] theorem State.setGantry_runMode (g : Gantry) : (s.setGantry g).runMode = s.runMode := rfl
@[simp] theorem State.setGantry_transfer (g : Gantry) : (s.setGantry g).transfer = s.transfer := rfl
@[simp] theorem State.setGantry_gripCounter (g : Gantry) : (s.setGantry g).gripCounter = s.gripCounter := rfl
@[simp] theorem State.setGantry_releaseCounter (g : Gantry) : (s.setGantry g).releaseCounter = s.releaseCounter := rfl
@[simp] theorem State.setGantry_valves (g : Gantry) : (s.setGantry g).valves = s.valves := rfl
@[simp] theorem State.setGantry_blowOff (g : Gantry) : (s.setGantry g).blowOff = s.blowOff := rfl
@[simp] theorem State.setGantry_gantry (g : Gantry) : (s.setGantry g).gantry = { s.gantry with state := g } := rfl
@[simp] theorem State.setGantry_fault (g : Gantry) : (s.setGantry g).fault = s.fault := rfl
@[simp] theorem State.setGantry_notices (g : Gantry) : (s.setGantry g).notices = s.notices := rfl
@[simp] theorem State.setGantry_modes (g : Gantry) : (s.setGantry g).modes = s.modes := rfl
@[simp] theorem State.setGantry_travel (g : Gantry) : (s.setGantry g).travel = s.travel := rfl

/-! ### setMove -/

@[simp] theorem State.setMove_pending (m : Move) : (s.setMove m).pending = s.pending := rfl
@[simp] theorem State.setMove_resetHeld (m : Move) : (s.setMove m).resetHeld = s.resetHeld := rfl
@[simp] theorem State.setMove_inputs (m : Move) : (s.setMove m).inputs = s.inputs := rfl
@[simp] theorem State.setMove_link (m : Move) : (s.setMove m).link = s.link := rfl
@[simp] theorem State.setMove_decoder (m : Move) : (s.setMove m).decoder = s.decoder := rfl
@[simp] theorem State.setMove_waiting (m : Move) : (s.setMove m).waiting = s.waiting := rfl
@[simp] theorem State.setMove_store (m : Move) : (s.setMove m).store = s.store := rfl
@[simp] theorem State.setMove_stackTable (m : Move) : (s.setMove m).stackTable = s.stackTable := rfl
@[simp] theorem State.setMove_lanes (m : Move) : (s.setMove m).lanes = s.lanes := rfl
@[simp] theorem State.setMove_idleQueue (m : Move) : (s.setMove m).idleQueue = s.idleQueue := rfl
@[simp] theorem State.setMove_fillingOrder (m : Move) : (s.setMove m).fillingOrder = s.fillingOrder := rfl
@[simp] theorem State.setMove_runMode (m : Move) : (s.setMove m).runMode = s.runMode := rfl
@[simp] theorem State.setMove_transfer (m : Move) : (s.setMove m).transfer = s.transfer := rfl
@[simp] theorem State.setMove_gripCounter (m : Move) : (s.setMove m).gripCounter = s.gripCounter := rfl
@[simp] theorem State.setMove_releaseCounter (m : Move) : (s.setMove m).releaseCounter = s.releaseCounter := rfl
@[simp] theorem State.setMove_valves (m : Move) : (s.setMove m).valves = s.valves := rfl
@[simp] theorem State.setMove_blowOff (m : Move) : (s.setMove m).blowOff = s.blowOff := rfl
@[simp] theorem State.setMove_gantry (m : Move) : (s.setMove m).gantry = { s.gantry with move := m } := rfl
@[simp] theorem State.setMove_fault (m : Move) : (s.setMove m).fault = s.fault := rfl
@[simp] theorem State.setMove_notices (m : Move) : (s.setMove m).notices = s.notices := rfl
@[simp] theorem State.setMove_modes (m : Move) : (s.setMove m).modes = s.modes := rfl
@[simp] theorem State.setMove_travel (m : Move) : (s.setMove m).travel = s.travel := rfl

/-! ### setLink -/

@[simp] theorem State.setLink_pending (k : Link) : (s.setLink k).pending = s.pending := rfl
@[simp] theorem State.setLink_resetHeld (k : Link) : (s.setLink k).resetHeld = s.resetHeld := rfl
@[simp] theorem State.setLink_inputs (k : Link) : (s.setLink k).inputs = s.inputs := rfl
@[simp] theorem State.setLink_link (k : Link) : (s.setLink k).link = k := rfl
@[simp] theorem State.setLink_decoder (k : Link) : (s.setLink k).decoder = s.decoder := rfl
@[simp] theorem State.setLink_waiting (k : Link) : (s.setLink k).waiting = s.waiting := rfl
@[simp] theorem State.setLink_store (k : Link) : (s.setLink k).store = s.store := rfl
@[simp] theorem State.setLink_stackTable (k : Link) : (s.setLink k).stackTable = s.stackTable := rfl
@[simp] theorem State.setLink_lanes (k : Link) : (s.setLink k).lanes = s.lanes := rfl
@[simp] theorem State.setLink_idleQueue (k : Link) : (s.setLink k).idleQueue = s.idleQueue := rfl
@[simp] theorem State.setLink_fillingOrder (k : Link) : (s.setLink k).fillingOrder = s.fillingOrder := rfl
@[simp] theorem State.setLink_runMode (k : Link) : (s.setLink k).runMode = s.runMode := rfl
@[simp] theorem State.setLink_transfer (k : Link) : (s.setLink k).transfer = s.transfer := rfl
@[simp] theorem State.setLink_gripCounter (k : Link) : (s.setLink k).gripCounter = s.gripCounter := rfl
@[simp] theorem State.setLink_releaseCounter (k : Link) : (s.setLink k).releaseCounter = s.releaseCounter := rfl
@[simp] theorem State.setLink_valves (k : Link) : (s.setLink k).valves = s.valves := rfl
@[simp] theorem State.setLink_blowOff (k : Link) : (s.setLink k).blowOff = s.blowOff := rfl
@[simp] theorem State.setLink_gantry (k : Link) : (s.setLink k).gantry = s.gantry := rfl
@[simp] theorem State.setLink_fault (k : Link) : (s.setLink k).fault = s.fault := rfl
@[simp] theorem State.setLink_notices (k : Link) : (s.setLink k).notices = s.notices := rfl
@[simp] theorem State.setLink_modes (k : Link) : (s.setLink k).modes = s.modes := rfl
@[simp] theorem State.setLink_travel (k : Link) : (s.setLink k).travel = s.travel := rfl

/-! ### setLane -/

@[simp] theorem State.setLane_pending (l : LaneNo) (v : Lane) : (s.setLane l v).pending = s.pending := rfl
@[simp] theorem State.setLane_resetHeld (l : LaneNo) (v : Lane) : (s.setLane l v).resetHeld = s.resetHeld := rfl
@[simp] theorem State.setLane_inputs (l : LaneNo) (v : Lane) : (s.setLane l v).inputs = s.inputs := rfl
@[simp] theorem State.setLane_link (l : LaneNo) (v : Lane) : (s.setLane l v).link = s.link := rfl
@[simp] theorem State.setLane_decoder (l : LaneNo) (v : Lane) : (s.setLane l v).decoder = s.decoder := rfl
@[simp] theorem State.setLane_waiting (l : LaneNo) (v : Lane) : (s.setLane l v).waiting = s.waiting := rfl
@[simp] theorem State.setLane_store (l : LaneNo) (v : Lane) : (s.setLane l v).store = s.store := rfl
@[simp] theorem State.setLane_stackTable (l : LaneNo) (v : Lane) : (s.setLane l v).stackTable = s.stackTable := rfl
@[simp] theorem State.setLane_lanes (l : LaneNo) (v : Lane) : (s.setLane l v).lanes = s.lanes.set l v := rfl
@[simp] theorem State.setLane_idleQueue (l : LaneNo) (v : Lane) : (s.setLane l v).idleQueue = s.idleQueue := rfl
@[simp] theorem State.setLane_fillingOrder (l : LaneNo) (v : Lane) : (s.setLane l v).fillingOrder = s.fillingOrder := rfl
@[simp] theorem State.setLane_runMode (l : LaneNo) (v : Lane) : (s.setLane l v).runMode = s.runMode := rfl
@[simp] theorem State.setLane_transfer (l : LaneNo) (v : Lane) : (s.setLane l v).transfer = s.transfer := rfl
@[simp] theorem State.setLane_gripCounter (l : LaneNo) (v : Lane) : (s.setLane l v).gripCounter = s.gripCounter := rfl
@[simp] theorem State.setLane_releaseCounter (l : LaneNo) (v : Lane) : (s.setLane l v).releaseCounter = s.releaseCounter := rfl
@[simp] theorem State.setLane_valves (l : LaneNo) (v : Lane) : (s.setLane l v).valves = s.valves := rfl
@[simp] theorem State.setLane_blowOff (l : LaneNo) (v : Lane) : (s.setLane l v).blowOff = s.blowOff := rfl
@[simp] theorem State.setLane_gantry (l : LaneNo) (v : Lane) : (s.setLane l v).gantry = s.gantry := rfl
@[simp] theorem State.setLane_fault (l : LaneNo) (v : Lane) : (s.setLane l v).fault = s.fault := rfl
@[simp] theorem State.setLane_notices (l : LaneNo) (v : Lane) : (s.setLane l v).notices = s.notices := rfl
@[simp] theorem State.setLane_modes (l : LaneNo) (v : Lane) : (s.setLane l v).modes = s.modes := rfl
@[simp] theorem State.setLane_travel (l : LaneNo) (v : Lane) : (s.setLane l v).travel = s.travel := rfl

/-! ### setStack -/

@[simp] theorem State.setStack_pending (k : StackNo) (v : StackRec) : (s.setStack k v).pending = s.pending := rfl
@[simp] theorem State.setStack_resetHeld (k : StackNo) (v : StackRec) : (s.setStack k v).resetHeld = s.resetHeld := rfl
@[simp] theorem State.setStack_inputs (k : StackNo) (v : StackRec) : (s.setStack k v).inputs = s.inputs := rfl
@[simp] theorem State.setStack_link (k : StackNo) (v : StackRec) : (s.setStack k v).link = s.link := rfl
@[simp] theorem State.setStack_decoder (k : StackNo) (v : StackRec) : (s.setStack k v).decoder = s.decoder := rfl
@[simp] theorem State.setStack_waiting (k : StackNo) (v : StackRec) : (s.setStack k v).waiting = s.waiting := rfl
@[simp] theorem State.setStack_store (k : StackNo) (v : StackRec) : (s.setStack k v).store = s.store := rfl
@[simp] theorem State.setStack_stackTable (k : StackNo) (v : StackRec) : (s.setStack k v).stackTable = s.stackTable.set k v := rfl
@[simp] theorem State.setStack_lanes (k : StackNo) (v : StackRec) : (s.setStack k v).lanes = s.lanes := rfl
@[simp] theorem State.setStack_idleQueue (k : StackNo) (v : StackRec) : (s.setStack k v).idleQueue = s.idleQueue := rfl
@[simp] theorem State.setStack_fillingOrder (k : StackNo) (v : StackRec) : (s.setStack k v).fillingOrder = s.fillingOrder := rfl
@[simp] theorem State.setStack_runMode (k : StackNo) (v : StackRec) : (s.setStack k v).runMode = s.runMode := rfl
@[simp] theorem State.setStack_transfer (k : StackNo) (v : StackRec) : (s.setStack k v).transfer = s.transfer := rfl
@[simp] theorem State.setStack_gripCounter (k : StackNo) (v : StackRec) : (s.setStack k v).gripCounter = s.gripCounter := rfl
@[simp] theorem State.setStack_releaseCounter (k : StackNo) (v : StackRec) : (s.setStack k v).releaseCounter = s.releaseCounter := rfl
@[simp] theorem State.setStack_valves (k : StackNo) (v : StackRec) : (s.setStack k v).valves = s.valves := rfl
@[simp] theorem State.setStack_blowOff (k : StackNo) (v : StackRec) : (s.setStack k v).blowOff = s.blowOff := rfl
@[simp] theorem State.setStack_gantry (k : StackNo) (v : StackRec) : (s.setStack k v).gantry = s.gantry := rfl
@[simp] theorem State.setStack_fault (k : StackNo) (v : StackRec) : (s.setStack k v).fault = s.fault := rfl
@[simp] theorem State.setStack_notices (k : StackNo) (v : StackRec) : (s.setStack k v).notices = s.notices := rfl
@[simp] theorem State.setStack_modes (k : StackNo) (v : StackRec) : (s.setStack k v).modes = s.modes := rfl
@[simp] theorem State.setStack_travel (k : StackNo) (v : StackRec) : (s.setStack k v).travel = s.travel := rfl

/-! ### setEntries -/

@[simp] theorem State.setEntries_pending (es : List Job) : (s.setEntries es).pending = s.pending := rfl
@[simp] theorem State.setEntries_resetHeld (es : List Job) : (s.setEntries es).resetHeld = s.resetHeld := rfl
@[simp] theorem State.setEntries_inputs (es : List Job) : (s.setEntries es).inputs = s.inputs := rfl
@[simp] theorem State.setEntries_link (es : List Job) : (s.setEntries es).link = s.link := rfl
@[simp] theorem State.setEntries_decoder (es : List Job) : (s.setEntries es).decoder = s.decoder := rfl
@[simp] theorem State.setEntries_waiting (es : List Job) : (s.setEntries es).waiting = s.waiting := rfl
@[simp] theorem State.setEntries_store (es : List Job) : (s.setEntries es).store = { s.store with jobs := { s.store.jobs with entries := es } } := rfl
@[simp] theorem State.setEntries_stackTable (es : List Job) : (s.setEntries es).stackTable = s.stackTable := rfl
@[simp] theorem State.setEntries_lanes (es : List Job) : (s.setEntries es).lanes = s.lanes := rfl
@[simp] theorem State.setEntries_idleQueue (es : List Job) : (s.setEntries es).idleQueue = s.idleQueue := rfl
@[simp] theorem State.setEntries_fillingOrder (es : List Job) : (s.setEntries es).fillingOrder = s.fillingOrder := rfl
@[simp] theorem State.setEntries_runMode (es : List Job) : (s.setEntries es).runMode = s.runMode := rfl
@[simp] theorem State.setEntries_transfer (es : List Job) : (s.setEntries es).transfer = s.transfer := rfl
@[simp] theorem State.setEntries_gripCounter (es : List Job) : (s.setEntries es).gripCounter = s.gripCounter := rfl
@[simp] theorem State.setEntries_releaseCounter (es : List Job) : (s.setEntries es).releaseCounter = s.releaseCounter := rfl
@[simp] theorem State.setEntries_valves (es : List Job) : (s.setEntries es).valves = s.valves := rfl
@[simp] theorem State.setEntries_blowOff (es : List Job) : (s.setEntries es).blowOff = s.blowOff := rfl
@[simp] theorem State.setEntries_gantry (es : List Job) : (s.setEntries es).gantry = s.gantry := rfl
@[simp] theorem State.setEntries_fault (es : List Job) : (s.setEntries es).fault = s.fault := rfl
@[simp] theorem State.setEntries_notices (es : List Job) : (s.setEntries es).notices = s.notices := rfl
@[simp] theorem State.setEntries_modes (es : List Job) : (s.setEntries es).modes = s.modes := rfl
@[simp] theorem State.setEntries_travel (es : List Job) : (s.setEntries es).travel = s.travel := rfl

/-! ### onTransfer -/

@[simp] theorem State.onTransfer_pending (f : Transfer → Transfer) : (s.onTransfer f).pending = s.pending := rfl
@[simp] theorem State.onTransfer_resetHeld (f : Transfer → Transfer) : (s.onTransfer f).resetHeld = s.resetHeld := rfl
@[simp] theorem State.onTransfer_inputs (f : Transfer → Transfer) : (s.onTransfer f).inputs = s.inputs := rfl
@[simp] theorem State.onTransfer_link (f : Transfer → Transfer) : (s.onTransfer f).link = s.link := rfl
@[simp] theorem State.onTransfer_decoder (f : Transfer → Transfer) : (s.onTransfer f).decoder = s.decoder := rfl
@[simp] theorem State.onTransfer_waiting (f : Transfer → Transfer) : (s.onTransfer f).waiting = s.waiting := rfl
@[simp] theorem State.onTransfer_store (f : Transfer → Transfer) : (s.onTransfer f).store = s.store := rfl
@[simp] theorem State.onTransfer_stackTable (f : Transfer → Transfer) : (s.onTransfer f).stackTable = s.stackTable := rfl
@[simp] theorem State.onTransfer_lanes (f : Transfer → Transfer) : (s.onTransfer f).lanes = s.lanes := rfl
@[simp] theorem State.onTransfer_idleQueue (f : Transfer → Transfer) : (s.onTransfer f).idleQueue = s.idleQueue := rfl
@[simp] theorem State.onTransfer_fillingOrder (f : Transfer → Transfer) : (s.onTransfer f).fillingOrder = s.fillingOrder := rfl
@[simp] theorem State.onTransfer_runMode (f : Transfer → Transfer) : (s.onTransfer f).runMode = s.runMode := rfl
@[simp] theorem State.onTransfer_transfer (f : Transfer → Transfer) : (s.onTransfer f).transfer = s.transfer.map f := rfl
@[simp] theorem State.onTransfer_gripCounter (f : Transfer → Transfer) : (s.onTransfer f).gripCounter = s.gripCounter := rfl
@[simp] theorem State.onTransfer_releaseCounter (f : Transfer → Transfer) : (s.onTransfer f).releaseCounter = s.releaseCounter := rfl
@[simp] theorem State.onTransfer_valves (f : Transfer → Transfer) : (s.onTransfer f).valves = s.valves := rfl
@[simp] theorem State.onTransfer_blowOff (f : Transfer → Transfer) : (s.onTransfer f).blowOff = s.blowOff := rfl
@[simp] theorem State.onTransfer_gantry (f : Transfer → Transfer) : (s.onTransfer f).gantry = s.gantry := rfl
@[simp] theorem State.onTransfer_fault (f : Transfer → Transfer) : (s.onTransfer f).fault = s.fault := rfl
@[simp] theorem State.onTransfer_notices (f : Transfer → Transfer) : (s.onTransfer f).notices = s.notices := rfl
@[simp] theorem State.onTransfer_modes (f : Transfer → Transfer) : (s.onTransfer f).modes = s.modes := rfl
@[simp] theorem State.onTransfer_travel (f : Transfer → Transfer) : (s.onTransfer f).travel = s.travel := rfl

/-! ### setPhase -/

@[simp] theorem State.setPhase_pending (p : Phase) : (s.setPhase p).pending = s.pending := rfl
@[simp] theorem State.setPhase_resetHeld (p : Phase) : (s.setPhase p).resetHeld = s.resetHeld := rfl
@[simp] theorem State.setPhase_inputs (p : Phase) : (s.setPhase p).inputs = s.inputs := rfl
@[simp] theorem State.setPhase_link (p : Phase) : (s.setPhase p).link = s.link := rfl
@[simp] theorem State.setPhase_decoder (p : Phase) : (s.setPhase p).decoder = s.decoder := rfl
@[simp] theorem State.setPhase_waiting (p : Phase) : (s.setPhase p).waiting = s.waiting := rfl
@[simp] theorem State.setPhase_store (p : Phase) : (s.setPhase p).store = s.store := rfl
@[simp] theorem State.setPhase_stackTable (p : Phase) : (s.setPhase p).stackTable = s.stackTable := rfl
@[simp] theorem State.setPhase_lanes (p : Phase) : (s.setPhase p).lanes = s.lanes := rfl
@[simp] theorem State.setPhase_idleQueue (p : Phase) : (s.setPhase p).idleQueue = s.idleQueue := rfl
@[simp] theorem State.setPhase_fillingOrder (p : Phase) : (s.setPhase p).fillingOrder = s.fillingOrder := rfl
@[simp] theorem State.setPhase_runMode (p : Phase) : (s.setPhase p).runMode = s.runMode := rfl
@[simp] theorem State.setPhase_transfer (p : Phase) : (s.setPhase p).transfer = s.transfer.map fun t => { t with phase := p, leg := .first } := rfl
@[simp] theorem State.setPhase_gripCounter (p : Phase) : (s.setPhase p).gripCounter = s.gripCounter := rfl
@[simp] theorem State.setPhase_releaseCounter (p : Phase) : (s.setPhase p).releaseCounter = s.releaseCounter := rfl
@[simp] theorem State.setPhase_valves (p : Phase) : (s.setPhase p).valves = s.valves := rfl
@[simp] theorem State.setPhase_blowOff (p : Phase) : (s.setPhase p).blowOff = s.blowOff := rfl
@[simp] theorem State.setPhase_gantry (p : Phase) : (s.setPhase p).gantry = s.gantry := rfl
@[simp] theorem State.setPhase_fault (p : Phase) : (s.setPhase p).fault = s.fault := rfl
@[simp] theorem State.setPhase_notices (p : Phase) : (s.setPhase p).notices = s.notices := rfl
@[simp] theorem State.setPhase_modes (p : Phase) : (s.setPhase p).modes = s.modes := rfl
@[simp] theorem State.setPhase_travel (p : Phase) : (s.setPhase p).travel = s.travel := rfl

/-! ### emit -/

@[simp] theorem State.emit_pending (cs : List DriveCommand) : (s.emit cs).pending = s.pending := rfl
@[simp] theorem State.emit_resetHeld (cs : List DriveCommand) : (s.emit cs).resetHeld = s.resetHeld := rfl
@[simp] theorem State.emit_inputs (cs : List DriveCommand) : (s.emit cs).inputs = s.inputs := rfl
@[simp] theorem State.emit_link (cs : List DriveCommand) : (s.emit cs).link = s.link := rfl
@[simp] theorem State.emit_decoder (cs : List DriveCommand) : (s.emit cs).decoder = s.decoder := rfl
@[simp] theorem State.emit_waiting (cs : List DriveCommand) : (s.emit cs).waiting = s.waiting := rfl
@[simp] theorem State.emit_store (cs : List DriveCommand) : (s.emit cs).store = s.store := rfl
@[simp] theorem State.emit_stackTable (cs : List DriveCommand) : (s.emit cs).stackTable = s.stackTable := rfl
@[simp] theorem State.emit_lanes (cs : List DriveCommand) : (s.emit cs).lanes = s.lanes := rfl
@[simp] theorem State.emit_idleQueue (cs : List DriveCommand) : (s.emit cs).idleQueue = s.idleQueue := rfl
@[simp] theorem State.emit_fillingOrder (cs : List DriveCommand) : (s.emit cs).fillingOrder = s.fillingOrder := rfl
@[simp] theorem State.emit_runMode (cs : List DriveCommand) : (s.emit cs).runMode = s.runMode := rfl
@[simp] theorem State.emit_transfer (cs : List DriveCommand) : (s.emit cs).transfer = s.transfer := rfl
@[simp] theorem State.emit_gripCounter (cs : List DriveCommand) : (s.emit cs).gripCounter = s.gripCounter := rfl
@[simp] theorem State.emit_releaseCounter (cs : List DriveCommand) : (s.emit cs).releaseCounter = s.releaseCounter := rfl
@[simp] theorem State.emit_valves (cs : List DriveCommand) : (s.emit cs).valves = s.valves := rfl
@[simp] theorem State.emit_blowOff (cs : List DriveCommand) : (s.emit cs).blowOff = s.blowOff := rfl
@[simp] theorem State.emit_gantry (cs : List DriveCommand) : (s.emit cs).gantry = { s.gantry with driveOut := s.gantry.driveOut ++ cs } := rfl
@[simp] theorem State.emit_fault (cs : List DriveCommand) : (s.emit cs).fault = s.fault := rfl
@[simp] theorem State.emit_notices (cs : List DriveCommand) : (s.emit cs).notices = s.notices := rfl
@[simp] theorem State.emit_modes (cs : List DriveCommand) : (s.emit cs).modes = s.modes := rfl
@[simp] theorem State.emit_travel (cs : List DriveCommand) : (s.emit cs).travel = s.travel := rfl

/-! ### joinIdle -/

@[simp] theorem State.joinIdle_pending (l : LaneNo) : (s.joinIdle l).pending = s.pending := rfl
@[simp] theorem State.joinIdle_resetHeld (l : LaneNo) : (s.joinIdle l).resetHeld = s.resetHeld := rfl
@[simp] theorem State.joinIdle_inputs (l : LaneNo) : (s.joinIdle l).inputs = s.inputs := rfl
@[simp] theorem State.joinIdle_link (l : LaneNo) : (s.joinIdle l).link = s.link := rfl
@[simp] theorem State.joinIdle_decoder (l : LaneNo) : (s.joinIdle l).decoder = s.decoder := rfl
@[simp] theorem State.joinIdle_waiting (l : LaneNo) : (s.joinIdle l).waiting = s.waiting := rfl
@[simp] theorem State.joinIdle_store (l : LaneNo) : (s.joinIdle l).store = s.store := rfl
@[simp] theorem State.joinIdle_stackTable (l : LaneNo) : (s.joinIdle l).stackTable = s.stackTable := rfl
@[simp] theorem State.joinIdle_lanes (l : LaneNo) : (s.joinIdle l).lanes = s.lanes := rfl
@[simp] theorem State.joinIdle_idleQueue (l : LaneNo) : (s.joinIdle l).idleQueue = s.idleQueue ++ [{ lane := l, age := 0 }] := rfl
@[simp] theorem State.joinIdle_fillingOrder (l : LaneNo) : (s.joinIdle l).fillingOrder = s.fillingOrder := rfl
@[simp] theorem State.joinIdle_runMode (l : LaneNo) : (s.joinIdle l).runMode = s.runMode := rfl
@[simp] theorem State.joinIdle_transfer (l : LaneNo) : (s.joinIdle l).transfer = s.transfer := rfl
@[simp] theorem State.joinIdle_gripCounter (l : LaneNo) : (s.joinIdle l).gripCounter = s.gripCounter := rfl
@[simp] theorem State.joinIdle_releaseCounter (l : LaneNo) : (s.joinIdle l).releaseCounter = s.releaseCounter := rfl
@[simp] theorem State.joinIdle_valves (l : LaneNo) : (s.joinIdle l).valves = s.valves := rfl
@[simp] theorem State.joinIdle_blowOff (l : LaneNo) : (s.joinIdle l).blowOff = s.blowOff := rfl
@[simp] theorem State.joinIdle_gantry (l : LaneNo) : (s.joinIdle l).gantry = s.gantry := rfl
@[simp] theorem State.joinIdle_fault (l : LaneNo) : (s.joinIdle l).fault = s.fault := rfl
@[simp] theorem State.joinIdle_notices (l : LaneNo) : (s.joinIdle l).notices = s.notices := rfl
@[simp] theorem State.joinIdle_modes (l : LaneNo) : (s.joinIdle l).modes = s.modes := rfl
@[simp] theorem State.joinIdle_travel (l : LaneNo) : (s.joinIdle l).travel = s.travel := rfl

/-! ### leaveIdle -/

@[simp] theorem State.leaveIdle_pending (l : LaneNo) : (s.leaveIdle l).pending = s.pending := rfl
@[simp] theorem State.leaveIdle_resetHeld (l : LaneNo) : (s.leaveIdle l).resetHeld = s.resetHeld := rfl
@[simp] theorem State.leaveIdle_inputs (l : LaneNo) : (s.leaveIdle l).inputs = s.inputs := rfl
@[simp] theorem State.leaveIdle_link (l : LaneNo) : (s.leaveIdle l).link = s.link := rfl
@[simp] theorem State.leaveIdle_decoder (l : LaneNo) : (s.leaveIdle l).decoder = s.decoder := rfl
@[simp] theorem State.leaveIdle_waiting (l : LaneNo) : (s.leaveIdle l).waiting = s.waiting := rfl
@[simp] theorem State.leaveIdle_store (l : LaneNo) : (s.leaveIdle l).store = s.store := rfl
@[simp] theorem State.leaveIdle_stackTable (l : LaneNo) : (s.leaveIdle l).stackTable = s.stackTable := rfl
@[simp] theorem State.leaveIdle_lanes (l : LaneNo) : (s.leaveIdle l).lanes = s.lanes := rfl
@[simp] theorem State.leaveIdle_idleQueue (l : LaneNo) : (s.leaveIdle l).idleQueue = s.idleQueue.filter fun e => e.lane != l := rfl
@[simp] theorem State.leaveIdle_fillingOrder (l : LaneNo) : (s.leaveIdle l).fillingOrder = s.fillingOrder := rfl
@[simp] theorem State.leaveIdle_runMode (l : LaneNo) : (s.leaveIdle l).runMode = s.runMode := rfl
@[simp] theorem State.leaveIdle_transfer (l : LaneNo) : (s.leaveIdle l).transfer = s.transfer := rfl
@[simp] theorem State.leaveIdle_gripCounter (l : LaneNo) : (s.leaveIdle l).gripCounter = s.gripCounter := rfl
@[simp] theorem State.leaveIdle_releaseCounter (l : LaneNo) : (s.leaveIdle l).releaseCounter = s.releaseCounter := rfl
@[simp] theorem State.leaveIdle_valves (l : LaneNo) : (s.leaveIdle l).valves = s.valves := rfl
@[simp] theorem State.leaveIdle_blowOff (l : LaneNo) : (s.leaveIdle l).blowOff = s.blowOff := rfl
@[simp] theorem State.leaveIdle_gantry (l : LaneNo) : (s.leaveIdle l).gantry = s.gantry := rfl
@[simp] theorem State.leaveIdle_fault (l : LaneNo) : (s.leaveIdle l).fault = s.fault := rfl
@[simp] theorem State.leaveIdle_notices (l : LaneNo) : (s.leaveIdle l).notices = s.notices := rfl
@[simp] theorem State.leaveIdle_modes (l : LaneNo) : (s.leaveIdle l).modes = s.modes := rfl
@[simp] theorem State.leaveIdle_travel (l : LaneNo) : (s.leaveIdle l).travel = s.travel := rfl

/-! ### joinFilling -/

@[simp] theorem State.joinFilling_pending (l : LaneNo) : (s.joinFilling l).pending = s.pending := rfl
@[simp] theorem State.joinFilling_resetHeld (l : LaneNo) : (s.joinFilling l).resetHeld = s.resetHeld := rfl
@[simp] theorem State.joinFilling_inputs (l : LaneNo) : (s.joinFilling l).inputs = s.inputs := rfl
@[simp] theorem State.joinFilling_link (l : LaneNo) : (s.joinFilling l).link = s.link := rfl
@[simp] theorem State.joinFilling_decoder (l : LaneNo) : (s.joinFilling l).decoder = s.decoder := rfl
@[simp] theorem State.joinFilling_waiting (l : LaneNo) : (s.joinFilling l).waiting = s.waiting := rfl
@[simp] theorem State.joinFilling_store (l : LaneNo) : (s.joinFilling l).store = s.store := rfl
@[simp] theorem State.joinFilling_stackTable (l : LaneNo) : (s.joinFilling l).stackTable = s.stackTable := rfl
@[simp] theorem State.joinFilling_lanes (l : LaneNo) : (s.joinFilling l).lanes = s.lanes := rfl
@[simp] theorem State.joinFilling_idleQueue (l : LaneNo) : (s.joinFilling l).idleQueue = s.idleQueue := rfl
@[simp] theorem State.joinFilling_fillingOrder (l : LaneNo) : (s.joinFilling l).fillingOrder = s.fillingOrder ++ [l] := rfl
@[simp] theorem State.joinFilling_runMode (l : LaneNo) : (s.joinFilling l).runMode = s.runMode := rfl
@[simp] theorem State.joinFilling_transfer (l : LaneNo) : (s.joinFilling l).transfer = s.transfer := rfl
@[simp] theorem State.joinFilling_gripCounter (l : LaneNo) : (s.joinFilling l).gripCounter = s.gripCounter := rfl
@[simp] theorem State.joinFilling_releaseCounter (l : LaneNo) : (s.joinFilling l).releaseCounter = s.releaseCounter := rfl
@[simp] theorem State.joinFilling_valves (l : LaneNo) : (s.joinFilling l).valves = s.valves := rfl
@[simp] theorem State.joinFilling_blowOff (l : LaneNo) : (s.joinFilling l).blowOff = s.blowOff := rfl
@[simp] theorem State.joinFilling_gantry (l : LaneNo) : (s.joinFilling l).gantry = s.gantry := rfl
@[simp] theorem State.joinFilling_fault (l : LaneNo) : (s.joinFilling l).fault = s.fault := rfl
@[simp] theorem State.joinFilling_notices (l : LaneNo) : (s.joinFilling l).notices = s.notices := rfl
@[simp] theorem State.joinFilling_modes (l : LaneNo) : (s.joinFilling l).modes = s.modes := rfl
@[simp] theorem State.joinFilling_travel (l : LaneNo) : (s.joinFilling l).travel = s.travel := rfl

/-! ### leaveFilling -/

@[simp] theorem State.leaveFilling_pending (l : LaneNo) : (s.leaveFilling l).pending = s.pending := rfl
@[simp] theorem State.leaveFilling_resetHeld (l : LaneNo) : (s.leaveFilling l).resetHeld = s.resetHeld := rfl
@[simp] theorem State.leaveFilling_inputs (l : LaneNo) : (s.leaveFilling l).inputs = s.inputs := rfl
@[simp] theorem State.leaveFilling_link (l : LaneNo) : (s.leaveFilling l).link = s.link := rfl
@[simp] theorem State.leaveFilling_decoder (l : LaneNo) : (s.leaveFilling l).decoder = s.decoder := rfl
@[simp] theorem State.leaveFilling_waiting (l : LaneNo) : (s.leaveFilling l).waiting = s.waiting := rfl
@[simp] theorem State.leaveFilling_store (l : LaneNo) : (s.leaveFilling l).store = s.store := rfl
@[simp] theorem State.leaveFilling_stackTable (l : LaneNo) : (s.leaveFilling l).stackTable = s.stackTable := rfl
@[simp] theorem State.leaveFilling_lanes (l : LaneNo) : (s.leaveFilling l).lanes = s.lanes := rfl
@[simp] theorem State.leaveFilling_idleQueue (l : LaneNo) : (s.leaveFilling l).idleQueue = s.idleQueue := rfl
@[simp] theorem State.leaveFilling_fillingOrder (l : LaneNo) : (s.leaveFilling l).fillingOrder = s.fillingOrder.filter fun m => m != l := rfl
@[simp] theorem State.leaveFilling_runMode (l : LaneNo) : (s.leaveFilling l).runMode = s.runMode := rfl
@[simp] theorem State.leaveFilling_transfer (l : LaneNo) : (s.leaveFilling l).transfer = s.transfer := rfl
@[simp] theorem State.leaveFilling_gripCounter (l : LaneNo) : (s.leaveFilling l).gripCounter = s.gripCounter := rfl
@[simp] theorem State.leaveFilling_releaseCounter (l : LaneNo) : (s.leaveFilling l).releaseCounter = s.releaseCounter := rfl
@[simp] theorem State.leaveFilling_valves (l : LaneNo) : (s.leaveFilling l).valves = s.valves := rfl
@[simp] theorem State.leaveFilling_blowOff (l : LaneNo) : (s.leaveFilling l).blowOff = s.blowOff := rfl
@[simp] theorem State.leaveFilling_gantry (l : LaneNo) : (s.leaveFilling l).gantry = s.gantry := rfl
@[simp] theorem State.leaveFilling_fault (l : LaneNo) : (s.leaveFilling l).fault = s.fault := rfl
@[simp] theorem State.leaveFilling_notices (l : LaneNo) : (s.leaveFilling l).notices = s.notices := rfl
@[simp] theorem State.leaveFilling_modes (l : LaneNo) : (s.leaveFilling l).modes = s.modes := rfl
@[simp] theorem State.leaveFilling_travel (l : LaneNo) : (s.leaveFilling l).travel = s.travel := rfl

/-! ### becomeHalted -/

@[simp] theorem State.becomeHalted_pending (r : Remembered) : (s.becomeHalted r).pending = s.pending := rfl
@[simp] theorem State.becomeHalted_resetHeld (r : Remembered) : (s.becomeHalted r).resetHeld = s.resetHeld := rfl
@[simp] theorem State.becomeHalted_inputs (r : Remembered) : (s.becomeHalted r).inputs = s.inputs := rfl
@[simp] theorem State.becomeHalted_link (r : Remembered) : (s.becomeHalted r).link = s.link := rfl
@[simp] theorem State.becomeHalted_decoder (r : Remembered) : (s.becomeHalted r).decoder = s.decoder := rfl
@[simp] theorem State.becomeHalted_waiting (r : Remembered) : (s.becomeHalted r).waiting = s.waiting := rfl
@[simp] theorem State.becomeHalted_store (r : Remembered) : (s.becomeHalted r).store = s.store := rfl
@[simp] theorem State.becomeHalted_stackTable (r : Remembered) : (s.becomeHalted r).stackTable = s.stackTable := rfl
@[simp] theorem State.becomeHalted_lanes (r : Remembered) : (s.becomeHalted r).lanes = s.lanes := rfl
@[simp] theorem State.becomeHalted_idleQueue (r : Remembered) : (s.becomeHalted r).idleQueue = s.idleQueue := rfl
@[simp] theorem State.becomeHalted_fillingOrder (r : Remembered) : (s.becomeHalted r).fillingOrder = s.fillingOrder := rfl
@[simp] theorem State.becomeHalted_runMode (r : Remembered) : (s.becomeHalted r).runMode = s.runMode := rfl
@[simp] theorem State.becomeHalted_transfer (r : Remembered) : (s.becomeHalted r).transfer = s.transfer := rfl
@[simp] theorem State.becomeHalted_gripCounter (r : Remembered) : (s.becomeHalted r).gripCounter = s.gripCounter := rfl
@[simp] theorem State.becomeHalted_releaseCounter (r : Remembered) : (s.becomeHalted r).releaseCounter = s.releaseCounter := rfl
@[simp] theorem State.becomeHalted_valves (r : Remembered) : (s.becomeHalted r).valves = s.valves := rfl
@[simp] theorem State.becomeHalted_blowOff (r : Remembered) : (s.becomeHalted r).blowOff = s.blowOff := rfl
@[simp] theorem State.becomeHalted_gantry (r : Remembered) : (s.becomeHalted r).gantry = { s.gantry with state := .halted r, noteHalted := true } := rfl
@[simp] theorem State.becomeHalted_fault (r : Remembered) : (s.becomeHalted r).fault = s.fault := rfl
@[simp] theorem State.becomeHalted_notices (r : Remembered) : (s.becomeHalted r).notices = s.notices := rfl
@[simp] theorem State.becomeHalted_modes (r : Remembered) : (s.becomeHalted r).modes = s.modes := rfl
@[simp] theorem State.becomeHalted_travel (r : Remembered) : (s.becomeHalted r).travel = s.travel := rfl

/-! ### headAt, headTakes -/

@[simp] theorem State.headAt_pending (z : Nat) : (s.headAt z).pending = s.pending := rfl
@[simp] theorem State.headAt_resetHeld (z : Nat) : (s.headAt z).resetHeld = s.resetHeld := rfl
@[simp] theorem State.headAt_inputs (z : Nat) : (s.headAt z).inputs = s.inputs := rfl
@[simp] theorem State.headAt_link (z : Nat) : (s.headAt z).link = s.link := rfl
@[simp] theorem State.headAt_decoder (z : Nat) : (s.headAt z).decoder = s.decoder := rfl
@[simp] theorem State.headAt_waiting (z : Nat) : (s.headAt z).waiting = s.waiting := rfl
@[simp] theorem State.headAt_store (z : Nat) : (s.headAt z).store = s.store := rfl
@[simp] theorem State.headAt_stackTable (z : Nat) : (s.headAt z).stackTable = s.stackTable := rfl
@[simp] theorem State.headAt_lanes (z : Nat) : (s.headAt z).lanes = s.lanes := rfl
@[simp] theorem State.headAt_idleQueue (z : Nat) : (s.headAt z).idleQueue = s.idleQueue := rfl
@[simp] theorem State.headAt_fillingOrder (z : Nat) : (s.headAt z).fillingOrder = s.fillingOrder := rfl
@[simp] theorem State.headAt_runMode (z : Nat) : (s.headAt z).runMode = s.runMode := rfl
@[simp] theorem State.headAt_transfer (z : Nat) : (s.headAt z).transfer = s.transfer := rfl
@[simp] theorem State.headAt_gripCounter (z : Nat) : (s.headAt z).gripCounter = s.gripCounter := rfl
@[simp] theorem State.headAt_releaseCounter (z : Nat) : (s.headAt z).releaseCounter = s.releaseCounter := rfl
@[simp] theorem State.headAt_valves (z : Nat) : (s.headAt z).valves = s.valves := rfl
@[simp] theorem State.headAt_blowOff (z : Nat) : (s.headAt z).blowOff = s.blowOff := rfl
@[simp] theorem State.headAt_fault (z : Nat) : (s.headAt z).fault = s.fault := rfl
@[simp] theorem State.headAt_notices (z : Nat) : (s.headAt z).notices = s.notices := rfl
@[simp] theorem State.headAt_modes (z : Nat) : (s.headAt z).modes = s.modes := rfl
@[simp] theorem State.headAt_travel (z : Nat) : (s.headAt z).travel = s.travel := rfl
@[simp] theorem State.headTakes_pending (ts : List Target) : (s.headTakes ts).pending = s.pending := rfl
@[simp] theorem State.headTakes_resetHeld (ts : List Target) : (s.headTakes ts).resetHeld = s.resetHeld := rfl
@[simp] theorem State.headTakes_inputs (ts : List Target) : (s.headTakes ts).inputs = s.inputs := rfl
@[simp] theorem State.headTakes_link (ts : List Target) : (s.headTakes ts).link = s.link := rfl
@[simp] theorem State.headTakes_decoder (ts : List Target) : (s.headTakes ts).decoder = s.decoder := rfl
@[simp] theorem State.headTakes_waiting (ts : List Target) : (s.headTakes ts).waiting = s.waiting := rfl
@[simp] theorem State.headTakes_store (ts : List Target) : (s.headTakes ts).store = s.store := rfl
@[simp] theorem State.headTakes_stackTable (ts : List Target) : (s.headTakes ts).stackTable = s.stackTable := rfl
@[simp] theorem State.headTakes_lanes (ts : List Target) : (s.headTakes ts).lanes = s.lanes := rfl
@[simp] theorem State.headTakes_idleQueue (ts : List Target) : (s.headTakes ts).idleQueue = s.idleQueue := rfl
@[simp] theorem State.headTakes_fillingOrder (ts : List Target) : (s.headTakes ts).fillingOrder = s.fillingOrder := rfl
@[simp] theorem State.headTakes_runMode (ts : List Target) : (s.headTakes ts).runMode = s.runMode := rfl
@[simp] theorem State.headTakes_transfer (ts : List Target) : (s.headTakes ts).transfer = s.transfer := rfl
@[simp] theorem State.headTakes_gripCounter (ts : List Target) : (s.headTakes ts).gripCounter = s.gripCounter := rfl
@[simp] theorem State.headTakes_releaseCounter (ts : List Target) : (s.headTakes ts).releaseCounter = s.releaseCounter := rfl
@[simp] theorem State.headTakes_valves (ts : List Target) : (s.headTakes ts).valves = s.valves := rfl
@[simp] theorem State.headTakes_blowOff (ts : List Target) : (s.headTakes ts).blowOff = s.blowOff := rfl
@[simp] theorem State.headTakes_fault (ts : List Target) : (s.headTakes ts).fault = s.fault := rfl
@[simp] theorem State.headTakes_notices (ts : List Target) : (s.headTakes ts).notices = s.notices := rfl
@[simp] theorem State.headTakes_modes (ts : List Target) : (s.headTakes ts).modes = s.modes := rfl
@[simp] theorem State.headTakes_travel (ts : List Target) : (s.headTakes ts).travel = s.travel := rfl
@[simp] theorem State.headAt_gantry (z : Nat) :
    (s.headAt z).gantry = { s.gantry with head := s.gantry.head.map fun h => { h with z := z } } := rfl
@[simp] theorem State.headTakes_gantry (ts : List Target) :
    (s.headTakes ts).gantry = { s.gantry with head := s.gantry.head.map fun h => ts.foldl Head.goes h } := rfl

end Sys2Proof.Machine
end

