-- ==== Sys2Proof/Laws/Tables.lean ====
section
/-! SUPPORT. Reading after writing for the per-lane, per-stack and per-axis tables, and for a lane or stack of the state. -/

namespace Sys2Proof.Machine

@[simp] theorem PerLane.get_set_self {α : Type} (t : PerLane α) (l : LaneNo) (v : α) : (t.set l v).get l = v := by
  cases l <;> rfl

theorem PerLane.get_set_other {α : Type} (t : PerLane α) (l m : LaneNo) (v : α) (h : m ≠ l) :
    (t.set l v).get m = t.get m := by
  cases l <;> cases m <;> first | rfl | exact absurd rfl h

@[simp] theorem PerLane.get_map {α β : Type} (f : α → β) (t : PerLane α) (l : LaneNo) :
    (t.map f).get l = f (t.get l) := by
  cases l <;> rfl

@[simp] theorem PerStack.get_set_self {α : Type} (t : PerStack α) (k : StackNo) (v : α) : (t.set k v).get k = v := by
  cases k <;> rfl

theorem PerStack.get_set_other {α : Type} (t : PerStack α) (k m : StackNo) (v : α) (h : m ≠ k) :
    (t.set k v).get m = t.get m := by
  cases k <;> cases m <;> first | rfl | exact absurd rfl h

@[simp] theorem PerStack.get_map {α β : Type} (f : α → β) (t : PerStack α) (k : StackNo) :
    (t.map f).get k = f (t.get k) := by
  cases k <;> rfl

@[simp] theorem AxisSet.get_set_self (t : AxisSet) (a : Axis) (v : Bool) : (t.set a v).get a = v := by
  cases a <;> rfl

theorem AxisSet.get_set_other (t : AxisSet) (a b : Axis) (v : Bool) (h : b ≠ a) : (t.set a v).get b = t.get b := by
  cases a <;> cases b <;> first | rfl | exact absurd rfl h

@[simp] theorem AxisSet.get_ofList (as : List Axis) (a : Axis) : (AxisSet.ofList as).get a = decide (a ∈ as) := by
  cases a <;> rfl

theorem AxisSet.mem_toList (t : AxisSet) (a : Axis) : a ∈ t.toList ↔ t.get a = true := by
  cases a <;> simp [AxisSet.toList, allAxes]

@[simp] theorem mem_allLanes (l : LaneNo) : l ∈ allLanes := by
  cases l <;> decide

@[simp] theorem mem_allStacks (k : StackNo) : k ∈ allStacks := by
  cases k <;> decide

@[simp] theorem State.lane_setLane_self (s : State) (l : LaneNo) (v : Lane) : (s.setLane l v).lane l = v :=
  PerLane.get_set_self s.lanes l v

theorem State.lane_setLane_other (s : State) (l m : LaneNo) (v : Lane) (h : m ≠ l) :
    (s.setLane l v).lane m = s.lane m :=
  PerLane.get_set_other s.lanes l m v h

@[simp] theorem State.stack_setStack_self (s : State) (k : StackNo) (v : StackRec) : (s.setStack k v).stack k = v :=
  PerStack.get_set_self s.stackTable k v

theorem State.stack_setStack_other (s : State) (k m : StackNo) (v : StackRec) (h : m ≠ k) :
    (s.setStack k v).stack m = s.stack m :=
  PerStack.get_set_other s.stackTable k m v h

@[simp] theorem State.lane_setStack (s : State) (k : StackNo) (v : StackRec) (l : LaneNo) :
    (s.setStack k v).lane l = s.lane l := rfl

@[simp] theorem State.stack_setLane (s : State) (l : LaneNo) (v : Lane) (k : StackNo) :
    (s.setLane l v).stack k = s.stack k := rfl

@[simp] theorem laneOf_laneCode (l : LaneNo) : laneOf (laneCode l) = some l := by
  cases l <;> rfl

@[simp] theorem stackOf_code (k : StackNo) : stackOf k.code = some k := by
  cases k <;> rfl

theorem laneOf_eq_some {n : Nat} {l : LaneNo} : laneOf n = some l ↔ n = laneCode l := by
  constructor
  · unfold laneOf; split <;> intro h <;> cases h <;> rfl
  · rintro rfl; exact laneOf_laneCode l

theorem stackOf_eq_some {n : Nat} {k : StackNo} : stackOf n = some k ↔ n = k.code := by
  constructor
  · unfold stackOf; split <;> intro h <;> cases h <;> rfl
  · rintro rfl; exact stackOf_code k

end Sys2Proof.Machine
end

