-- ==== Sys2Proof/Laws/Bytes.lean ====
section
/-! SUPPORT. Frame fields: what a field of a payload reads as, the sum of a frame, the request kinds. -/

namespace Sys2Proof.Machine

theorem byteOf_toNat {n : Nat} (h : n < 256) : (byteOf n).toNat = n := by
  simp [byteOf, Nat.mod_eq_of_lt h]

/-- A 2-byte field reads back as the number sent (R165). -/
theorem le16_reads {n : Nat} (h : n < 65536) : (byteOf n).toNat + 256 * (byteOf (n / 256)).toNat = n := by
  have h2 : n / 256 < 256 := by omega
  have h1 : (byteOf n).toNat = n % 256 := by simp [byteOf]
  rw [h1, byteOf_toNat h2]
  omega

@[simp] theorem le16_length (n : Nat) : (le16 n).length = 2 := rfl

@[simp] theorem u8_zero (b : Byte) (p : List Byte) : u8 (b :: p) 0 = b.toNat := rfl

@[simp] theorem u8_succ (b : Byte) (p : List Byte) (i : Nat) : u8 (b :: p) (i + 1) = u8 p i := rfl

theorem u16_eq (p : List Byte) (i : Nat) : u16 p i = u8 p i + 256 * u8 p (i + 1) := rfl

/-- The sum of bytes is the sum of the head and the sum of the rest. -/
theorem byteSum_cons (b : Byte) (r : List Byte) : byteSum (b :: r) = b + byteSum r := by
  have key : ∀ (l : List Byte) (a : Byte), l.foldl (· + ·) a = a + l.foldl (· + ·) 0 := by
    intro l
    induction l with
    | nil => intro a; simp
    | cons x xs ih =>
      intro a
      simp only [List.foldl_cons]
      rw [ih (a + x), ih (0 + x)]
      simp [BitVec.add_assoc]
  simp only [byteSum, List.foldl_cons]
  rw [key]
  simp

theorem byteSum_append (l r : List Byte) : byteSum (l ++ r) = byteSum l + byteSum r := by
  induction l with
  | nil => simp [byteSum]
  | cons b l ih => rw [List.cons_append, byteSum_cons, byteSum_cons, ih, BitVec.add_assoc]

/-- Every byte of a frame, the check included, sums to a multiple of 256 (R164). -/
theorem frameBytes_sum (kind b3 b4 : Byte) (payload : List Byte) : byteSum (frameBytes kind b3 b4 payload) = 0 := by
  unfold frameBytes
  rw [byteSum_append]
  simp [byteSum]

@[simp] theorem kindOf_code (k : RequestKind) : kindOf k.code = some k := by
  cases k <;> rfl

end Sys2Proof.Machine
end

