-- ==== Sys2Proof/Laws/Codes.lean ====
section
/-! SUPPORT. Value codes read back: each reader of a code answers a value exactly for that value's code. -/

namespace Sys2Proof.Machine

theorem rotationOf_eq_some {n : Nat} {v : Rotation} : rotationOf n = some v ↔ n = v.degrees := by
  constructor
  · unfold rotationOf; split <;> intro h <;> cases h <;> rfl
  · rintro rfl; cases v <;> rfl

theorem rotationOf_eq_none {n : Nat} : rotationOf n = none ↔ ∀ v : Rotation, n ≠ v.degrees := by
  constructor
  · intro h v hn
    rw [rotationOf_eq_some.2 hn] at h
    cases h
  · intro h
    cases hv : rotationOf n with
    | none => rfl
    | some v => exact absurd (rotationOf_eq_some.1 hv) (h v)

theorem signOf_eq_some {n : Nat} {v : Sign} : signOf n = some v ↔ n = v.code := by
  constructor
  · unfold signOf; split <;> intro h <;> cases h <;> rfl
  · rintro rfl; cases v <;> rfl

theorem signOf_eq_none {n : Nat} : signOf n = none ↔ ∀ v : Sign, n ≠ v.code := by
  constructor
  · intro h v hn
    rw [signOf_eq_some.2 hn] at h
    cases h
  · intro h
    cases hv : signOf n with
    | none => rfl
    | some v => exact absurd (signOf_eq_some.1 hv) (h v)

theorem timerModeOf_eq_some {n : Nat} {v : TimerMode} : timerModeOf n = some v ↔ n = v.code := by
  constructor
  · unfold timerModeOf; split <;> intro h <;> cases h <;> rfl
  · rintro rfl; cases v <;> rfl

theorem timerModeOf_eq_none {n : Nat} : timerModeOf n = none ↔ ∀ v : TimerMode, n ≠ v.code := by
  constructor
  · intro h v hn
    rw [timerModeOf_eq_some.2 hn] at h
    cases h
  · intro h
    cases hv : timerModeOf n with
    | none => rfl
    | some v => exact absurd (timerModeOf_eq_some.1 hv) (h v)

theorem roundingOf_eq_some {n : Nat} {v : Rounding} : roundingOf n = some v ↔ n = v.code := by
  constructor
  · unfold roundingOf; split <;> intro h <;> cases h <;> rfl
  · rintro rfl; cases v <;> rfl

theorem roundingOf_eq_none {n : Nat} : roundingOf n = none ↔ ∀ v : Rounding, n ≠ v.code := by
  constructor
  · intro h v hn
    rw [roundingOf_eq_some.2 hn] at h
    cases h
  · intro h
    cases hv : roundingOf n with
    | none => rfl
    | some v => exact absurd (roundingOf_eq_some.1 hv) (h v)

theorem partitionOf_eq_some {n : Nat} {v : Partition} : partitionOf n = some v ↔ n = v.code := by
  constructor
  · unfold partitionOf; split <;> intro h <;> cases h <;> rfl
  · rintro rfl; cases v <;> rfl

theorem partitionOf_eq_none {n : Nat} : partitionOf n = none ↔ ∀ v : Partition, n ≠ v.code := by
  constructor
  · intro h v hn
    rw [partitionOf_eq_some.2 hn] at h
    cases h
  · intro h
    cases hv : partitionOf n with
    | none => rfl
    | some v => exact absurd (partitionOf_eq_some.1 hv) (h v)

theorem boolOf_eq_some {n : Nat} {v : Bool} : boolOf n = some v ↔ n = (if v then 1 else 0) := by
  constructor
  · unfold boolOf; split <;> intro h <;> cases h <;> rfl
  · rintro rfl; cases v <;> rfl

theorem boolOf_eq_none {n : Nat} : boolOf n = none ↔ ∀ v : Bool, n ≠ (if v then 1 else 0) := by
  constructor
  · intro h v hn
    rw [boolOf_eq_some.2 hn] at h
    cases h
  · intro h
    cases hv : boolOf n with
    | none => rfl
    | some v => exact absurd (boolOf_eq_some.1 hv) (h v)

theorem laneOf_eq_none {n : Nat} : laneOf n = none ↔ ∀ l : LaneNo, n ≠ laneCode l := by
  constructor
  · intro h l hn
    rw [laneOf_eq_some.2 hn] at h
    cases h
  · intro h
    cases hv : laneOf n with
    | none => rfl
    | some l => exact absurd (laneOf_eq_some.1 hv) (h l)

theorem stackOf_eq_none {n : Nat} : stackOf n = none ↔ ∀ k : StackNo, n ≠ k.code := by
  constructor
  · intro h k hn
    rw [stackOf_eq_some.2 hn] at h
    cases h
  · intro h
    cases hv : stackOf n with
    | none => rfl
    | some k => exact absurd (stackOf_eq_some.1 hv) (h k)

theorem jobLaneOf_eq_some {n : Nat} {l : Option LaneNo} : jobLaneOf n = some l ↔ n = jobLaneCode l := by
  cases n with
  | zero =>
    cases l with
    | none => simp [jobLaneOf, jobLaneCode]
    | some l => cases l <;> simp [jobLaneOf, jobLaneCode, laneCode]
  | succ n =>
    have : jobLaneOf (n + 1) = (laneOf (n + 1)).map some := rfl
    rw [this]
    cases l with
    | none => simp [jobLaneCode]
    | some l => simp only [Option.map_eq_some_iff, Option.some.injEq, exists_eq_right, jobLaneCode, laneOf_eq_some]

theorem jobLaneOf_eq_none {n : Nat} : jobLaneOf n = none ↔ ∀ l : Option LaneNo, n ≠ jobLaneCode l := by
  constructor
  · intro h l hn
    rw [jobLaneOf_eq_some.2 hn] at h
    cases h
  · intro h
    cases hv : jobLaneOf n with
    | none => rfl
    | some l => exact absurd (jobLaneOf_eq_some.1 hv) (h l)

/-- Clamping into a range, as a maximum of a minimum. -/
theorem clampTo_eq {lo hi : Nat} (h : lo ≤ hi) (v : Nat) : clampTo lo hi v = max lo (min hi v) := by
  unfold clampTo
  split
  · omega
  · split <;> omega

theorem u8_lt (p : List Byte) (i : Nat) : u8 p i < 256 := by
  unfold u8
  exact BitVec.isLt _

theorem u16_lt (p : List Byte) (i : Nat) : u16 p i < 65536 := by
  have h := u8_lt p i
  have h2 := u8_lt p (i + 1)
  simp only [u16]
  omega

/-- A 2-byte field is sent back as it was received. -/
theorem le16_u16 (p : List Byte) (i : Nat) : le16 (u16 p i) = [p.getD i 0, p.getD (i + 1) 0] := by
  have h := u8_lt p i
  have h2 := u8_lt p (i + 1)
  have e1 : byteOf (u16 p i) = p.getD i 0 := by
    apply BitVec.eq_of_toNat_eq
    simp only [byteOf, BitVec.toNat_ofNat, u16]
    have : u8 p i = (p.getD i 0).toNat := rfl
    omega
  have e2 : byteOf (u16 p i / 256) = p.getD (i + 1) 0 := by
    apply BitVec.eq_of_toNat_eq
    simp only [byteOf, BitVec.toNat_ofNat, u16]
    have : u8 p (i + 1) = (p.getD (i + 1) 0).toNat := rfl
    omega
  simp only [le16, e1, e2]

theorem byteOf_u8 (p : List Byte) (i : Nat) : byteOf (u8 p i) = p.getD i 0 := by
  apply BitVec.eq_of_toNat_eq
  rw [byteOf_toNat (u8_lt p i)]
  rfl

/-- Two numbers of 16 bits with the same 2-byte field are equal. -/
theorem le16_inj {m n : Nat} (hm : m < 65536) (hn : n < 65536) (h : le16 m = le16 n) : m = n := by
  have h1 := le16_reads hm
  have h2 := le16_reads hn
  simp only [le16, List.cons.injEq, and_true] at h
  rw [h.1, h.2] at h1
  omega

end Sys2Proof.Machine
end

