-- ==== Sys2Proof/Laws/Frames.lean ====
section
/-! SUPPORT. For each shared operation one lemma that says what it can change at all: the state it leaves is the state it found
with the named fields replaced. Lemmas on the job list say what its operations read. -/

namespace Sys2Proof.Machine

/-! ## Drive ports and gantry -/

/-- What a command to the drives leaves of Gantry Control: only last targets, the awaited move and the ports change, and a motion
command is put on a port only with the safety line clear and outside dry run (R137). -/
structure Driven (s : State) (g : GantryCtl) : Prop where
  state : g.state = s.gantry.state
  dryRun : g.dryRun = s.gantry.dryRun
  head : g.head = s.gantry.head
  noteHomed : g.noteHomed = s.gantry.noteHomed
  noteHalted : g.noteHalted = s.gantry.noteHalted
  motion : ∀ d ∈ g.driveOut, d.isMotion = true →
    d ∈ s.gantry.driveOut ∨ (s.inputs.safety = false ∧ s.gantry.dryRun = false)

theorem recordTarget_keeps (g : GantryCtl) (t : Target) :
    (g.recordTarget t).state = g.state ∧ (g.recordTarget t).dryRun = g.dryRun ∧ (g.recordTarget t).head = g.head ∧
      (g.recordTarget t).noteHomed = g.noteHomed ∧ (g.recordTarget t).noteHalted = g.noteHalted ∧
      (g.recordTarget t).driveOut = g.driveOut := by
  unfold GantryCtl.recordTarget
  cases t.axis <;> exact ⟨rfl, rfl, rfl, rfl, rfl, rfl⟩

theorem recordTargets_keep (ts : List Target) (g : GantryCtl) :
    (ts.foldl GantryCtl.recordTarget g).state = g.state ∧ (ts.foldl GantryCtl.recordTarget g).dryRun = g.dryRun ∧
      (ts.foldl GantryCtl.recordTarget g).head = g.head ∧
      (ts.foldl GantryCtl.recordTarget g).noteHomed = g.noteHomed ∧
      (ts.foldl GantryCtl.recordTarget g).noteHalted = g.noteHalted ∧
      (ts.foldl GantryCtl.recordTarget g).driveOut = g.driveOut := by
  induction ts generalizing g with
  | nil => exact ⟨rfl, rfl, rfl, rfl, rfl, rfl⟩
  | cons t ts ih =>
    obtain ⟨h1, h2, h3, h4, h5, h6⟩ := ih (g.recordTarget t)
    obtain ⟨k1, k2, k3, k4, k5, k6⟩ := recordTarget_keeps g t
    exact ⟨h1.trans k1, h2.trans k2, h3.trans k3, h4.trans k4, h5.trans k5, h6.trans k6⟩

theorem Driven.refl (s : State) : Driven s s.gantry :=
  ⟨rfl, rfl, rfl, rfl, rfl, fun _ h _ => .inl h⟩

/-- Issuing targets changes Gantry Control only. -/
theorem issue_frame (s : State) (ts : List Target) : ∃ g, s.issue ts = { s with gantry := g } ∧ Driven s g := by
  obtain ⟨h1, h2, h3, h4, h5, h6⟩ := recordTargets_keep ts s.gantry
  unfold State.issue
  split
  · exact ⟨_, rfl, h1, h2, h3, h4, h5, fun d hd _ => .inl (h6 ▸ hd)⟩
  · rename_i hd
    split
    · rename_i hm
      simp only [State.motionAllowed, Bool.and_eq_true, Bool.not_eq_true'] at hm
      exact ⟨_, rfl, h1, h2, h3, h4, h5, fun _ _ _ => .inr ⟨hm.1.2, hm.2⟩⟩
    · exact ⟨_, rfl, .refl s⟩

/-- Issuing home commands changes Gantry Control only. -/
theorem issueHome_frame (s : State) (axes : List Axis) :
    ∃ g, s.issueHome axes = { s with gantry := g } ∧ Driven s g := by
  unfold State.issueHome
  split
  · exact ⟨_, rfl, rfl, rfl, rfl, rfl, rfl, fun _ h _ => .inl h⟩
  · split
    · rename_i hm
      simp only [State.motionAllowed, Bool.and_eq_true, Bool.not_eq_true'] at hm
      exact ⟨_, rfl, rfl, rfl, rfl, rfl, rfl, fun _ _ _ => .inr ⟨hm.1.2, hm.2⟩⟩
    · exact ⟨_, rfl, .refl s⟩

theorem stops_no_motion (axes : List Axis) (d : DriveCommand) (h : d ∈ axes.map .stop) : d.isMotion = false := by
  obtain ⟨a, -, rfl⟩ := List.mem_map.1 h
  rfl

/-- Stop commands change Gantry Control only. -/
theorem stop_frame (s : State) (axes : List Axis) : ∃ g, s.stop axes = { s with gantry := g } ∧ Driven s g := by
  unfold State.stop
  split
  · exact ⟨_, rfl, rfl, rfl, rfl, rfl, rfl, fun _ h _ => .inl h⟩
  · refine ⟨_, rfl, rfl, rfl, rfl, rfl, rfl, fun d h hm => ?_⟩
    rcases List.mem_append.1 h with h | h
    · exact .inl h
    · simp [stops_no_motion axes d h] at hm

/-- Stopping every axis leaves no move in progress. -/
theorem stopAll_frame (s : State) :
    ∃ g, s.stopAll = { s with gantry := g } ∧ Driven s g ∧ g.move = .still := by
  obtain ⟨g, h, k⟩ := stop_frame s allAxes
  refine ⟨{ g with move := .still }, by unfold State.stopAll; rw [h]; rfl, ?_, rfl⟩
  exact ⟨k.state, k.dryRun, k.head, k.noteHomed, k.noteHalted, k.motion⟩

/-! ## The job list -/

/-- The entry in a slot depends on the store alone. -/
theorem jobAt_of_store {s u : State} (h : u.store = s.store) (slot : Nat) : u.jobAt slot = s.jobAt slot := by
  cases s; cases u; dsimp only at h; subst h; rfl

theorem indexOfSlot_of_store {s u : State} (h : u.store = s.store) (slot : Nat) :
    u.indexOfSlot slot = s.indexOfSlot slot := by
  cases s; cases u; dsimp only at h; subst h; rfl

/-- The record's entry depends on the store and the record alone. -/
theorem recordJob_of_store {s u : State} (h : u.store = s.store) (ht : u.transfer = s.transfer) :
    u.recordJob = s.recordJob := by
  cases s; cases u; dsimp only at h ht; subst h ht; rfl

/-- Changing an entry changes the store's entries only. -/
theorem modifyJob_frame (s : State) (slot : Nat) (f : Job → Job) :
    s.modifyJob slot f = { s with store := (s.modifyJob slot f).store } := by
  unfold State.modifyJob
  split <;> rfl

theorem modifyJob_of_store {s u : State} (h : u.store = s.store) (slot : Nat) (f : Job → Job) :
    (u.modifyJob slot f).store = (s.modifyJob slot f).store := by
  unfold State.modifyJob
  rw [indexOfSlot_of_store h]
  cases s.indexOfSlot slot with
  | none => exact h
  | some k => simp only [State.setEntries, h]

/-- A job effect of the record changes the store only. -/
theorem onRecordJob_frame (s : State) (f : Job → Job) :
    s.onRecordJob f = { s with store := (s.onRecordJob f).store } := by
  unfold State.onRecordJob
  split
  · exact modifyJob_frame s _ f
  · rfl

theorem onRecordJob_of_store {s u : State} (h : u.store = s.store) (ht : u.transfer = s.transfer) (f : Job → Job) :
    (u.onRecordJob f).store = (s.onRecordJob f).store := by
  unfold State.onRecordJob
  rw [recordJob_of_store h ht, ht]
  cases s.transfer with
  | none => exact h
  | some t =>
    cases s.recordJob with
    | none => exact h
    | some j => exact modifyJob_of_store h t.jobSlot f

/-- Finishing a job changes the store and the notice FIFO only. -/
theorem finishJob_frame (s : State) (slot : Nat) (st : JobState) (r : Option Reason) :
    s.finishJob slot st r =
      { s with store := (s.finishJob slot st r).store, notices := (s.finishJob slot st r).notices } := by
  unfold State.finishJob
  cases s.jobAt slot with
  | none => rfl
  | some j =>
    dsimp only
    rw [modifyJob_frame]
    unfold State.pushNotice
    split <;> rfl

/-- No job effect changes the type entries. -/
theorem modifyJob_types (s : State) (slot : Nat) (f : Job → Job) : (s.modifyJob slot f).store.types = s.store.types := by
  unfold State.modifyJob
  split <;> rfl

theorem finishJob_types (s : State) (slot : Nat) (st : JobState) (r : Option Reason) :
    (s.finishJob slot st r).store.types = s.store.types := by
  unfold State.finishJob
  split
  · rfl
  · unfold State.pushNotice
    split <;> exact modifyJob_types s slot _

/-- The entry read for a type depends on the type entries alone. -/
theorem typeEntry_of_types {s u : State} (h : u.store.types = s.store.types) (n : Nat) :
    u.typeEntry n = s.typeEntry n := by
  simp only [State.typeEntry, h]

/-! ## Lanes -/

/-- Closing a book changes that lane and the filling order only. -/
theorem closeBook_frame (s : State) (l : LaneNo) :
    ∃ v q, s.closeBook l = { s with lanes := s.lanes.set l v, fillingOrder := q } := by
  have same : s = { s with lanes := s.lanes.set l (s.lane l), fillingOrder := s.fillingOrder } := by
    have : s.lanes.set l (s.lane l) = s.lanes := by cases l <;> rfl
    rw [this]
  unfold State.closeBook
  split
  · exact ⟨_, _, rfl⟩
  · exact ⟨_, _, same⟩
  · exact ⟨_, _, same⟩
  · exact ⟨_, _, same⟩

theorem PerLane.set_set {α : Type} (t : PerLane α) (l : LaneNo) (v w : α) : (t.set l v).set l w = t.set l w := by
  cases l <;> rfl

/-- A placement changes that lane and the service lists only. -/
theorem place_frame (s : State) (t : Transfer) :
    ∃ v q o, s.place t = { s with lanes := s.lanes.set t.lane v, idleQueue := q, fillingOrder := o } := by
  have same : s = { s with lanes := s.lanes.set t.lane (s.lane t.lane), idleQueue := s.idleQueue,
                           fillingOrder := s.fillingOrder } := by
    have : s.lanes.set t.lane (s.lane t.lane) = s.lanes := by cases t.lane <;> rfl
    rw [this]
  unfold State.place
  dsimp only
  split
  · exact ⟨_, _, _, rfl⟩
  · exact ⟨_, _, _, rfl⟩
  · exact ⟨_, _, _, same⟩
  · exact ⟨_, _, _, same⟩

/-- The close test changes that lane and the filling order only. -/
theorem closeTest_frame (s : State) (l : LaneNo) :
    ∃ v q, s.closeTest l = { s with lanes := s.lanes.set l v, fillingOrder := q } := by
  have same : ∀ u : State, u = { u with lanes := u.lanes.set l (u.lane l), fillingOrder := u.fillingOrder } := by
    intro u
    have : u.lanes.set l (u.lane l) = u.lanes := by cases l <;> rfl
    rw [this]
  have join : ∀ (u : State) (f : State → State), (∃ v q, u = { s with lanes := s.lanes.set l v, fillingOrder := q }) →
      (∃ v q, f u = { u with lanes := u.lanes.set l v, fillingOrder := q }) →
      ∃ v q, f u = { s with lanes := s.lanes.set l v, fillingOrder := q } := by
    rintro u f ⟨v, q, hu⟩ ⟨w, o, hf⟩
    refine ⟨w, o, ?_⟩
    rw [hf]
    subst hu
    simp only [PerLane.set_set]
  unfold State.closeTest
  refine join _ (fun u => u.closeTestEnd l) (join _ (fun u => u.closeTestTimer l) (join _ (fun u => u.closeTestBook l)
    (join s (fun u => u.closeTestPark l) ⟨_, _, same s⟩ ?_) ?_) ?_) ⟨_, _, rfl⟩
  · dsimp only [State.closeTestPark]
    split
    · exact ⟨_, _, rfl⟩
    · exact ⟨_, _, same s⟩
  · dsimp only [State.closeTestBook]
    split
    · split
      · exact closeBook_frame _ l
      · exact ⟨_, _, same _⟩
    · exact ⟨_, _, same _⟩
    · exact ⟨_, _, same _⟩
    · exact ⟨_, _, same _⟩
  · dsimp only [State.closeTestTimer]
    split
    · split
      · exact ⟨_, _, rfl⟩
      · exact ⟨_, _, same _⟩
    · exact ⟨_, _, same _⟩
    · exact ⟨_, _, same _⟩
    · exact ⟨_, _, same _⟩

/-- A take-over changes that lane and the idle queue only. -/
theorem takeOver_frame (s : State) (l : LaneNo) :
    ∃ v q, (s.takeOver l).1 = { s with lanes := s.lanes.set l v, idleQueue := q } := by
  unfold State.takeOver
  dsimp only
  split
  · exact ⟨_, _, rfl⟩
  · exact ⟨_, _, rfl⟩

end Sys2Proof.Machine
end

