-- ==== Sys2Proof/Laws/Requests.lean ====
section
/-! SUPPORT. How a request command runs: what exec makes of it outside reset, when it is held, discarded or decided at once. -/

namespace Sys2Proof.Machine

/-- The frame of a request command. -/
def frameOfRequest (k : RequestKind) (b : Body) : Frame :=
  { kind := k.code, body := b }

/-- A request command is the arrival of its frame. -/
theorem exec_request (k : RequestKind) (b : Body) (z : Nat) (s : State) :
    exec (requestCommand k b z) s =
      s.take fun s => s.requestArrives (frameOfRequest k b) (if k = .resume then z else s.inputs.zReport) := by
  cases k <;> rfl

theorem take_running {s : State} (h : s.resetHeld = false) (f : State → State) : s.take f = .next (f s.quiet) := by
  simp [State.take, h]

theorem take_held {s : State} (h : s.resetHeld = true) (f : State → State) : s.take f = .next s.quiet := by
  simp [State.take, h]

@[simp] theorem quiet_idem (s : State) : s.quiet.quiet = s.quiet := rfl

/-- A frame that completes while the decoder can take it is examined at once (R168, R170). -/
theorem requestArrives_examined {s : State} (h : s.takesAtOnce) (f : Frame) (hf : f.body.payload.length ≤ 56)
    (z : Nat) : s.quiet.requestArrives f z = s.quiet.examine f z := by
  obtain ⟨-, hh, hs, hw⟩ := h
  have hl : ¬ maxPayload < f.body.payload.length := by simp [maxPayload]; omega
  have e : ((s.quiet.setLink { s.quiet.link with held := some f }).setLink
      { ((s.quiet.setLink { s.quiet.link with held := some f }).link) with held := none }) = s.quiet := by
    simp only [State.setLink, State.quiet]
    rw [← hh]
  simp only [State.requestArrives, if_neg hl, State.frameComplete, State.quiet_link, hh, State.takeHeld,
    State.setLink_link, hs, State.setLink_waiting, State.quiet_waiting, hw]
  exact congrArg (fun u => State.examine u f z) (by simpa [hh, hs] using e)

/-- The payload lengths of R165 fit a frame. -/
theorem payloadLength_fits (k : RequestKind) : k.payloadLength ≤ 56 := by
  cases k <;> decide

/-- Only RESUME reads the Z drive's position report. -/
theorem answerOf_z (k : RequestKind) (f : Frame) (y z : Nat) (s : State) (h : k ≠ .resume) :
    answerOf k f y s = answerOf k f z s := by
  cases k <;> first | rfl | exact absurd rfl h

/-- A kind code decodes to its kind, so only 0x1F is RESUME. -/
theorem kindOf_resume {c : Byte} (h : kindOf c = some .resume) : c = 0x1F := by
  apply BitVec.eq_of_toNat_eq
  unfold kindOf at h
  split at h <;> simp_all

/-- The examination of a frame that is no RESUME does not read the Z drive. -/
theorem examine_z (s : State) (f : Frame) (y z : Nat) (h : f.kind ≠ 0x1F) : s.examine f y = s.examine f z := by
  unfold State.examine
  cases hk : kindOf f.kind with
  | none => rfl
  | some k =>
    have : k ≠ .resume := fun e => h (kindOf_resume (e ▸ hk))
    simp only [answerOf_z k f y z s this]

/-- Nor does its arrival. -/
theorem requestArrives_z (s : State) (f : Frame) (y z : Nat) (h : f.kind ≠ 0x1F) :
    s.requestArrives f y = s.requestArrives f z := by
  unfold State.requestArrives State.frameComplete
  split
  · rfl
  · split
    · rfl
    · simp only [State.takeHeld, State.setLink]
      split
      · rename_i g _ _ hg _ _
        cases hg
        exact examine_z _ _ y z h
      · rfl

/-- The arrival of a request command's frame, the Z drive at `z` (R168, log 5). -/
theorem exec_request_z (k : RequestKind) (b : Body) (z : Nat) (s : State) :
    exec (requestCommand k b z) s = s.take fun s => s.requestArrives (frameOfRequest k b) z := by
  rw [exec_request]
  by_cases hk : k = .resume
  · simp only [if_pos hk]
  · have : k.code ≠ 0x1F := by
      intro e
      cases k <;> first | exact hk rfl | exact absurd e (by decide)
    simp only [if_neg hk]
    congr 1
    funext u
    exact requestArrives_z _ _ _ _ this

/-- A request the decoder can take, with the right length and a READY decoder, is decided by its owning block (R170). -/
theorem exec_request_ready {s : State} (h : s.ready) (k : RequestKind) (b : Body)
    (hb : b.payload.length = k.payloadLength) (z : Nat) :
    exec (requestCommand k b z) s =
      .next ((answerOf k (frameOfRequest k b) z s.quiet).deliver (frameOfRequest k b)) := by
  have hf : (frameOfRequest k b).body.payload.length ≤ 56 := by
    simp only [frameOfRequest, hb]; exact payloadLength_fits k
  rw [exec_request_z, take_running h.1.1, requestArrives_examined h.1 _ hf]
  simp [State.examine, frameOfRequest, hb, h.2]

/-- The reply the model places is the reply of the statements. -/
theorem placeReply_eq_withReply (s : State) (kind : Byte) (b : Body) (r : Result) (p : List Byte)
    (hp : r.carries = false → p = []) :
    s.placeReply { kind := kind, body := b } r p = s.withReply kind b r p := by
  have hpay : (if r.carries then p else []) = p := by
    cases hc : r.carries
    · simp [hp hc]
    · simp
  unfold State.placeReply State.withReply
  simp only [hpay, Body.wantsSummary, replyKind, State.summaryPlaced, State.setLink]
  cases b.flags.getLsbD 0 <;> simp

/-- An answer that does not wait for a clearing: its reply, and the selection attempt it brings about. -/
theorem deliver_now (a : Answer) (k : RequestKind) (b : Body) (hl : a.later = false)
    (hp : a.result.carries = false → a.payload = []) :
    a.deliver (frameOfRequest k b) =
      if a.wake then (a.state.withReply k.code b a.result a.payload).reevaluate
      else a.state.withReply k.code b a.result a.payload := by
  simp only [Answer.deliver, hl, frameOfRequest, placeReply_eq_withReply _ _ _ _ _ hp]
  rfl

/-- A refused request is answered and changes nothing else. -/
theorem deliver_refuse (r : Result) (s : State) (k : RequestKind) (b : Body) :
    (refuse r s).deliver (frameOfRequest k b) = s.withReply k.code b r [] := by
  rw [deliver_now _ _ _ rfl (fun _ => rfl)]; rfl

theorem deliver_accept (s : State) (k : RequestKind) (b : Body) :
    (accept s).deliver (frameOfRequest k b) = s.withReply k.code b .ok [] := by
  rw [deliver_now _ _ _ rfl (fun _ => rfl)]; rfl

theorem deliver_acceptWake (s : State) (k : RequestKind) (b : Body) :
    (acceptWake s).deliver (frameOfRequest k b) = (s.withReply k.code b .ok []).reevaluate := by
  rw [deliver_now _ _ _ rfl (fun _ => rfl)]; rfl

theorem deliver_defer (s : State) (k : RequestKind) (b : Body) :
    (defer s).deliver (frameOfRequest k b) = s.withReply k.code b .deferred [] := by
  rw [deliver_now _ _ _ rfl (fun _ => rfl)]; rfl

theorem deliver_reading (p : List Byte) (s : State) (k : RequestKind) (b : Body) :
    (reading p s).deliver (frameOfRequest k b) = s.withReply k.code b .ok p := by
  rw [deliver_now _ _ _ rfl (fun h => by simp [reading, Result.carries] at h)]; rfl

end Sys2Proof.Machine
end

