-- ==== Sys2Proof/Laws/Store.lean ====
section
/-! SUPPORT. The Panel Store: the type list reads back what was written and keeps its canonical form; the circular job list gives
each entry its slot; every operation keeps the form of the store. -/

namespace Sys2Proof.Machine

/-! ## The type list -/

theorem typesRise_weaken {hi lo lo' : Nat} (h : lo' ≤ lo) {ts : List (Nat × TypeEntry)} (ht : typesRise hi lo ts = true) :
    typesRise hi lo' ts = true := by
  cases ts with
  | nil => rfl
  | cons a r =>
    obtain ⟨m, e⟩ := a
    simp only [typesRise, Bool.and_eq_true, decide_eq_true_eq] at ht ⊢
    exact ⟨⟨by omega, ht.1.2⟩, ht.2⟩

theorem lookup_below {hi lo : Nat} {ts : List (Nat × TypeEntry)} (ht : typesRise hi lo ts = true) {n : Nat} (h : n < lo) :
    lookupType ts n = none := by
  induction ts generalizing lo with
  | nil => rfl
  | cons a r ih =>
    obtain ⟨m, e⟩ := a
    simp only [typesRise, Bool.and_eq_true, decide_eq_true_eq] at ht
    have hm : m ≠ n := by omega
    simp only [lookupType, if_neg hm]
    exact ih ht.2 (by omega)

theorem lookup_above {hi lo : Nat} {ts : List (Nat × TypeEntry)} (ht : typesRise hi lo ts = true) {n : Nat} (h : hi ≤ n) :
    lookupType ts n = none := by
  induction ts generalizing lo with
  | nil => rfl
  | cons a r ih =>
    obtain ⟨m, e⟩ := a
    simp only [typesRise, Bool.and_eq_true, decide_eq_true_eq] at ht
    have hm : m ≠ n := by omega
    simp only [lookupType, if_neg hm]
    exact ih ht.2

/-- A written entry is read back. -/
theorem lookup_insert_self (ts : List (Nat × TypeEntry)) (n : Nat) (e : TypeEntry) :
    lookupType (insertType ts n e) n = some e := by
  induction ts with
  | nil => simp [insertType, lookupType]
  | cons a r ih =>
    obtain ⟨m, x⟩ := a
    simp only [insertType]
    split
    · simp [lookupType]
    · split
      · simp [lookupType]
      · rename_i h
        simp only [lookupType, if_neg (Ne.symm h), ih]

/-- Writing an entry leaves every other entry alone. -/
theorem lookup_insert_other (ts : List (Nat × TypeEntry)) (n m : Nat) (e : TypeEntry) (h : m ≠ n) :
    lookupType (insertType ts n e) m = lookupType ts m := by
  induction ts with
  | nil => simp [insertType, lookupType, Ne.symm h]
  | cons a r ih =>
    obtain ⟨k, x⟩ := a
    simp only [insertType]
    split
    · simp [lookupType, Ne.symm h]
    · split
      · rename_i hk
        subst hk
        simp [lookupType, Ne.symm h]
      · simp only [lookupType, ih]

/-- An erased entry is undefined. -/
theorem lookup_erase_self {hi lo : Nat} {ts : List (Nat × TypeEntry)} (ht : typesRise hi lo ts = true) (n : Nat) :
    lookupType (eraseType ts n) n = none := by
  induction ts generalizing lo with
  | nil => rfl
  | cons a r ih =>
    obtain ⟨m, x⟩ := a
    simp only [typesRise, Bool.and_eq_true, decide_eq_true_eq] at ht
    simp only [eraseType]
    split
    · rename_i h
      exact lookup_below ht.2 (by omega)
    · rename_i h
      simp only [lookupType, if_neg h]
      exact ih ht.2

/-- Erasing an entry leaves every other entry alone. -/
theorem lookup_erase_other (ts : List (Nat × TypeEntry)) (n m : Nat) (h : m ≠ n) :
    lookupType (eraseType ts n) m = lookupType ts m := by
  induction ts with
  | nil => rfl
  | cons a r ih =>
    obtain ⟨k, x⟩ := a
    simp only [eraseType]
    split
    · rename_i hk
      subst hk
      simp [lookupType, Ne.symm h]
    · simp only [lookupType, ih]

theorem typesRise_insert {hi lo : Nat} {ts : List (Nat × TypeEntry)} (ht : typesRise hi lo ts = true) {n : Nat}
    (hl : lo ≤ n) (hh : n < hi) (e : TypeEntry) : typesRise hi lo (insertType ts n e) = true := by
  induction ts generalizing lo with
  | nil => simp [insertType, typesRise, hl, hh]
  | cons a r ih =>
    obtain ⟨m, x⟩ := a
    simp only [typesRise, Bool.and_eq_true, decide_eq_true_eq] at ht
    simp only [insertType]
    split
    · rename_i h
      simp only [typesRise, Bool.and_eq_true, decide_eq_true_eq]
      exact ⟨⟨hl, hh⟩, ⟨by omega, ht.1.2⟩, ht.2⟩
    · split
      · rename_i h
        subst h
        simp only [typesRise, Bool.and_eq_true, decide_eq_true_eq]
        exact ht
      · rename_i h1 h2
        simp only [typesRise, Bool.and_eq_true, decide_eq_true_eq]
        exact ⟨ht.1, ih ht.2 (by omega)⟩

theorem typesRise_erase {hi lo : Nat} {ts : List (Nat × TypeEntry)} (ht : typesRise hi lo ts = true) (n : Nat) :
    typesRise hi lo (eraseType ts n) = true := by
  induction ts generalizing lo with
  | nil => rfl
  | cons a r ih =>
    obtain ⟨m, x⟩ := a
    simp only [typesRise, Bool.and_eq_true, decide_eq_true_eq] at ht
    simp only [eraseType]
    split
    · exact typesRise_weaken (by omega) ht.2
    · simp only [typesRise, Bool.and_eq_true, decide_eq_true_eq]
      exact ⟨ht.1, ih ht.2⟩

/-! ## The circular list -/

theorem jobSlots_pos (p : Partition) : 0 < p.jobSlots := by
  cases p <;> decide

theorem typeSlots_pos (p : Partition) : 0 < p.typeSlots := by
  cases p <;> decide

/-- The k-th entry of the list with its slot and position (R21). -/
theorem locateFrom_getElem? (j start k i : Nat) (es : List Job) :
    (locateFrom j start k es)[i]? =
      es[i]?.map fun e => { slot := (start + (k + i)) % j, pos := k + i + 1, job := e } := by
  induction es generalizing k i with
  | nil => simp [locateFrom]
  | cons e r ih =>
    cases i with
    | zero => simp [locateFrom]
    | succ i =>
      simp only [locateFrom, List.getElem?_cons_succ, ih]
      congr 1
      funext x
      congr 1 <;> first | omega | (congr 1; omega)

theorem locateFrom_length (j start k : Nat) (es : List Job) : (locateFrom j start k es).length = es.length := by
  induction es generalizing k with
  | nil => rfl
  | cons e r ih => simp [locateFrom, ih]

theorem locateFrom_jobs (j start k : Nat) (es : List Job) : (locateFrom j start k es).map Located.job = es := by
  induction es generalizing k with
  | nil => rfl
  | cons e r ih => simp [locateFrom, ih]

/-- What a located entry is: the entry at its position, in its slot (R21). -/
theorem mem_located {s : State} {e : Located} (h : e ∈ s.located) :
    ∃ i, s.store.jobs.entries[i]? = some e.job ∧ e.slot = (s.store.jobs.start + i) % s.jobSlots ∧ e.pos = i + 1 := by
  obtain ⟨i, hi⟩ := List.mem_iff_getElem?.1 h
  simp only [State.located, locateFrom_getElem?, Nat.zero_add, Option.map_eq_some_iff] at hi
  obtain ⟨x, hx, rfl⟩ := hi
  exact ⟨i, hx, rfl, rfl⟩

/-- Position and slot determine each other while the start pointer lies below J and at most J entries are listed (R21). -/
theorem index_of_slot {s : State} (hs : s.store.jobs.start < s.jobSlots) {i : Nat} (hi : i < s.entryCount)
    (hl : s.entryCount ≤ s.jobSlots) : s.indexOfSlot ((s.store.jobs.start + i) % s.jobSlots) = some i := by
  have hpos : 0 < s.jobSlots := jobSlots_pos _
  have hlt : (s.store.jobs.start + i) % s.jobSlots < s.jobSlots := Nat.mod_lt _ hpos
  have key : ((s.store.jobs.start + i) % s.jobSlots + s.jobSlots - s.store.jobs.start) % s.jobSlots = i := by
    by_cases hc : s.store.jobs.start + i < s.jobSlots
    · rw [Nat.mod_eq_of_lt hc]
      have : s.store.jobs.start + i + s.jobSlots - s.store.jobs.start = i + s.jobSlots := by omega
      rw [this, Nat.add_mod_right, Nat.mod_eq_of_lt (by omega)]
    · have e1 : (s.store.jobs.start + i) % s.jobSlots = s.store.jobs.start + i - s.jobSlots := by
        rw [Nat.mod_eq_sub_mod (by omega), Nat.mod_eq_of_lt (by omega)]
      rw [e1]
      have : s.store.jobs.start + i - s.jobSlots + s.jobSlots - s.store.jobs.start = i := by omega
      rw [this, Nat.mod_eq_of_lt (by omega)]
  simp only [State.indexOfSlot, key]
  rw [if_pos ⟨hlt, hi⟩]

/-- What a slot's index says: the slot is the start pointer advanced by it (R21). -/
theorem slot_of_index {s : State} (hs : s.store.jobs.start < s.jobSlots) {slot i : Nat}
    (h : s.indexOfSlot slot = some i) : slot = (s.store.jobs.start + i) % s.jobSlots ∧ i < s.entryCount := by
  simp only [State.indexOfSlot] at h
  split at h
  · rename_i hc
    obtain ⟨h1, h2⟩ := hc
    cases h
    refine ⟨?_, h2⟩
    by_cases hx : s.store.jobs.start ≤ slot
    · have e : (slot + s.jobSlots - s.store.jobs.start) % s.jobSlots = slot - s.store.jobs.start := by
        have : slot + s.jobSlots - s.store.jobs.start = slot - s.store.jobs.start + s.jobSlots := by omega
        rw [this, Nat.add_mod_right, Nat.mod_eq_of_lt (by omega)]
      rw [e, Nat.mod_eq_of_lt (by omega)]
      omega
    · have e : (slot + s.jobSlots - s.store.jobs.start) % s.jobSlots = slot + s.jobSlots - s.store.jobs.start :=
        Nat.mod_eq_of_lt (by omega)
      rw [e]
      have : s.store.jobs.start + (slot + s.jobSlots - s.store.jobs.start) = slot + s.jobSlots := by omega
      rw [this, Nat.add_mod_right, Nat.mod_eq_of_lt h1]
  · cases h

/-- The entry in a slot, by its index. -/
theorem jobAt_eq_some {s : State} {slot : Nat} {j : Job} :
    s.jobAt slot = some j ↔ ∃ i, s.indexOfSlot slot = some i ∧ s.store.jobs.entries[i]? = some j := by
  simp [State.jobAt, Option.bind_eq_some_iff]

/-! ## The form of the store -/

/-- What the canonical form says, part by part. -/
theorem wf_iff (st : Store) :
    st.wf = true ↔ typesRise st.partition.typeSlots 0 st.types = true ∧ st.typeCursor < st.partition.typeSlots ∧
      st.listCursor < st.partition.jobSlots ∧ st.jobs.start < st.partition.jobSlots ∧
      st.jobs.entries.length ≤ st.partition.jobSlots := by
  simp only [Store.wf, Bool.and_eq_true, decide_eq_true_eq, and_assoc]

theorem wf_cleared (p : Partition) : (Store.cleared p).wf = true := by
  cases p <;> decide

theorem wf_clearJobs {st : Store} (h : st.wf = true) : st.clearJobs.wf = true := by
  rw [wf_iff] at h ⊢
  exact ⟨h.1, h.2.1, jobSlots_pos _, jobSlots_pos _, Nat.zero_le _⟩

theorem wf_insertType {st : Store} (h : st.wf = true) {n : Nat} (hn : n < st.partition.typeSlots) (e : TypeEntry) :
    ({ st with types := insertType st.types n e } : Store).wf = true := by
  rw [wf_iff] at h ⊢
  exact ⟨typesRise_insert h.1 (Nat.zero_le n) hn e, h.2⟩

theorem wf_eraseType {st : Store} (h : st.wf = true) (n : Nat) :
    ({ st with types := eraseType st.types n } : Store).wf = true := by
  rw [wf_iff] at h ⊢
  exact ⟨typesRise_erase h.1 n, h.2⟩

theorem wf_typeCursor {st : Store} (h : st.wf = true) {n : Nat} (hn : n < st.partition.typeSlots) :
    ({ st with typeCursor := n } : Store).wf = true := by
  rw [wf_iff] at h ⊢
  exact ⟨h.1, hn, h.2.2⟩

theorem wf_listCursor {st : Store} (h : st.wf = true) {n : Nat} (hn : n < st.partition.jobSlots) :
    ({ st with listCursor := n } : Store).wf = true := by
  rw [wf_iff] at h ⊢
  exact ⟨h.1, h.2.1, hn, h.2.2.2⟩

/-- The entries may change as long as no more than J are listed. -/
theorem wf_entries {st : Store} (h : st.wf = true) {es : List Job} (he : es.length ≤ st.partition.jobSlots) :
    ({ st with jobs := { st.jobs with entries := es } } : Store).wf = true := by
  rw [wf_iff] at h ⊢
  exact ⟨h.1, h.2.1, h.2.2.1, h.2.2.2.1, he⟩

theorem wf_modifyJob {s : State} (h : s.store.wf = true) (slot : Nat) (f : Job → Job) :
    (s.modifyJob slot f).store.wf = true := by
  unfold State.modifyJob
  split
  · exact h
  · refine wf_entries h ?_
    rw [List.length_modify]
    exact ((wf_iff _).1 h).2.2.2.2

/-- Retiring keeps the form (R36). -/
theorem wf_retire {s : State} (h : s.store.wf = true) : s.retire.store.wf = true := by
  have k := (wf_iff _).1 h
  rw [wf_iff]
  refine ⟨k.1, k.2.1, k.2.2.1, Nat.mod_lt _ (jobSlots_pos _), ?_⟩
  show (s.store.jobs.entries.drop _).length ≤ _
  rw [List.length_drop]
  exact Nat.le_trans (Nat.sub_le _ _) k.2.2.2.2

theorem pushNotice_store (s : State) (n : JobNotice) : (s.pushNotice n).store = s.store := by
  unfold State.pushNotice
  split <;> rfl

/-- Finishing a job keeps the form. -/
theorem wf_finishJob {s : State} (h : s.store.wf = true) (slot : Nat) (st : JobState) (r : Option Reason) :
    (s.finishJob slot st r).store.wf = true := by
  unfold State.finishJob
  split
  · exact h
  · refine wf_retire ?_
    rw [pushNotice_store]
    exact wf_modifyJob h slot _

/-! ## Retirement -/

/-- The finished entries at the head are those dropped; the head left is live (R36). -/
theorem head_after_drop (es : List Job) : ∀ j ∈ (es.drop (finishedHead es)).head?, j.live = true := by
  induction es with
  | nil => simp
  | cons e r ih =>
    simp only [finishedHead]
    split
    · rename_i h
      simpa using h
    · simpa using ih

theorem dropped_finished (es : List Job) : ∀ g ∈ es.take (finishedHead es), g.live = false := by
  induction es with
  | nil => simp
  | cons e r ih =>
    simp only [finishedHead]
    split
    · simp
    · rename_i h
      intro g hg
      rw [List.take_succ_cons, List.mem_cons] at hg
      rcases hg with rfl | hg
      · simpa using h
      · exact ih g hg

theorem finishedHead_le (es : List Job) : finishedHead es ≤ es.length := by
  induction es with
  | nil => simp [finishedHead]
  | cons e r ih =>
    simp only [finishedHead, List.length_cons]
    split <;> omega

end Sys2Proof.Machine
end

