-- ==== Sys2Proof/Tests/Slice0.lean ====
section
/-! SUPPORT. The model's own tests. Expected values come from the worked examples and tables of spec/, named at each test.
The witness theorems show, for each statement with hypotheses, states and operands that meet them, clause by clause. -/

namespace Sys2Proof.Tests

open Sys2Proof Sys2Proof.Machine

/-! ## The cell of the worked examples (spec/04, spec/06, spec/07) -/

/-- A request body with tag 7 and no summary. -/
def ask (p : List Byte) : Body :=
  { tag := 7, flags := 0, payload := p }

/-- The part after its first clearing: the decoder is READY. -/
def live : State :=
  { State.reset with decoder := .ready }

/-- Type A of the worked cases. -/
def typeA : TypeEntry :=
  { len := 28000, wid := 20700, thk := 180, cls := 3, mask := 0xFF, zones := 8 }

/-- Type B of the worked cases. -/
def typeB : TypeEntry :=
  { len := 10010, wid := 6005, thk := 180, cls := 1, mask := 0x18, zones := 2 }

/-- Job 35 of the worked halt. -/
def job35 : Job :=
  { tag := 35, type := 1, stack := .k5, lane := some .l2, rotation := .r90, pattern := 500, urgent := false, count := 3,
    placed := 1, rejected := 0, lost := 0, clamped := 0, state := .active, reason := none, cancelPending := false,
    inFlight := false }

/-- Its book of one board. -/
def book35 : Book :=
  { key := { type := 1, pattern := 500, rotation := .r90 }, tags := [35], height := 180 }

/-- Lane 2 of the worked cases. -/
def lane2 : Lane :=
  { Lane.powerOn with
    configured := true
    cfg := { xf := 61250, yf := 4000, sx := .minus, sy := .plus, lt := 30000, wt := 14000, zt := 8500, hmax := 900,
             countLimit := 8, timerMode := .monitor, timerTime := 60, bookWait := 20 } }

/-- The cell with types A and B, stack 5 of type B, job 35, and lane 2 in a state of its own. -/
def cell (v : Lane) : State :=
  { live with
    store := { live.store with types := [(0, typeA), (1, typeB)], jobs := { start := 0, entries := [job35] } }
    stackTable := { live.stackTable with
      k5 := { StackRec.powerOn with
        geometrySet := true, xs := 40000, ys := 20000, zf := 1200, present := true, type := 1, count := 9 } }
    lanes := { live.lanes with l2 := v }
    inputs := { live.inputs with sawReady := { live.inputs.sawReady with l2 := true } } }

/-- The record of job 35's transfer in a phase. -/
def rec35 (p : Phase) : Transfer :=
  { jobTag := 35, jobSlot := 0, stack := .k5, lane := .l2, key := book35.key, mask := 0x18, pickX := 45005,
    pickY := 23002, placeX := 58248, placeY := 9005, clampPickX := false, clampPickY := false, clampPlaceX := false,
    clampPlaceY := false, ze := 2820, placeZ := 8860, window := some { start := 3020, limit := 2760, tolerance := 60 },
    phase := p, leg := .first, attempts := 1, zc := none, held := p.carries, rejectZ := none }

/-- The cell with the gantry in a state and the record in a phase. -/
def work (g : Gantry) (p : Phase) : State :=
  { cell { lane2 with state := .filling book35, inbound := true } with
    fillingOrder := [.l2], transfer := some (rec35 p), gantry := { GantryCtl.powerOn with state := g } }

/-- The state a command answers. -/
def run (c : Instr) (s : State) : State :=
  match exec c s with
  | .next t => t
  | .fault e => nomatch e
  | .refused _ => s

/-- The state after characters with good parity. -/
def typed (bs : List Byte) (s : State) : State :=
  bs.foldl (fun u v => run (.characterReceived v true 0) u) s

/-- The result code and payload of the reply a command places. -/
def reply (c : Instr) (s : State) : Option (Byte × List Byte) :=
  (run c s).link.slot.map fun r => (r.result, r.payload)

/-! ## Well-formed commands: an ill-formed term for each check -/

theorem test_wf_payload : (Instr.hold (ask (List.replicate 57 0))).wf = false := by decide

theorem test_wf_known_kind : (Instr.unknownKindRequest 0x22 (ask [])).wf = false := by decide

theorem test_wf_unknown_payload : (Instr.unknownKindRequest 0x23 (ask (List.replicate 57 0))).wf = false := by decide

theorem test_wf_position_report : (Instr.inPositionReport .z false 65536).wf = false := by decide

theorem test_wf_contact_report : (Instr.contactAsserted true 65536).wf = false := by decide

theorem test_wf_resume : (Instr.resume (ask []) 65536).wf = false := by decide

theorem test_wf_character : (Instr.characterReceived 0xA6 true 65536).wf = false := by decide

theorem test_wf_frameStart : (Instr.frameStart 65536).wf = false := by decide

theorem test_wf_accepted : (Instr.unknownKindRequest 0x23 (ask (List.replicate 56 0))).wf = true := by decide

/-- No row of the table has bits. -/
theorem test_no_word : decodeTableWord 8 0xA6 = none := rfl

/-! ## The link (spec/10, R164 and the worked examples) -/

/-- R164: a HOLD request with tag 7 and no summary has the check byte 0x36, its reply 0xB6. -/
theorem test_frame_hold : frameBytes 0x1D 7 0 [] = [0xA6, 0x00, 0x1D, 0x07, 0x00, 0x36] ∧
    frameBytes 0x9D 7 0 [] = [0xA6, 0x00, 0x9D, 0x07, 0x00, 0xB6] := by decide

/-- The worked request frame: QUERY STATUS, tag 5, summary asked, check byte 0x53, answered with kind 0x81 and 32 bytes. -/
theorem test_characterReceived_frame :
    (typed [0xA6, 0x00, 0x01, 0x05, 0x01, 0x53] live).link.slot.map
      (fun r => (r.kind, r.tag, r.result, r.payload.length)) = some (0x81, 5, 0, 32) := by decide

/-- The same frame with check byte 0x54 is discarded with CHECK. -/
theorem test_characterReceived_check :
    (typed [0xA6, 0x00, 0x01, 0x05, 0x01, 0x54] live).link.lastError = .check ∧
      (typed [0xA6, 0x00, 0x01, 0x05, 0x01, 0x54] live).link.slot = none := by decide

theorem test_gapTimerExpiry :
    (run .gapTimerExpiry { live with link := { live.link with rx := .assembling [0xA6] } }).link.lastError = .gap := by decide

theorem test_lineBreak : (run .lineBreak live).link.lastError = .break := by decide

/-- R170: a kind outside 0x01..0x22 is answered UNKNOWN_KIND. -/
theorem test_unknownKindRequest : reply (.unknownKindRequest 0x23 (ask [])) live = some (Result.unknownKind.code, []) := by
  decide

/-- The worked host that stops listening, steps 1 and 2: B is held behind reply A, C is discarded with OVERRUN. -/
theorem test_hold_behind_reply :
    let a := run (.readJob (ask [1, 0])) live
    let b := run (.queryStatus (ask [])) a
    b.link.held.isSome = true ∧ (run (.cancelJob (ask [9, 0])) b).link.lastError = .overrun := by decide

/-- R175: the reply leaves the slot at the frame's start while HOST-READY is asserted. -/
theorem test_frameStart :
    let a := run (.hostReadyAsserted true) (run (.hold (ask [])) live)
    (run (.frameStart 0) a).link.tx = some [0xA6, 0x00, 0x9D, 0x07, 0x00, 0xB6] ∧ (run (.frameStart 0) a).link.slot = none := by decide

/-- R170: a frame held behind the reply that leaves is taken at that moment. -/
theorem test_frameStart_held :
    let a := run (.hostReadyAsserted true) (run (.queryStatus (ask [])) (run (.hold (ask [])) live))
    (run (.frameStart 0) a).link.held = none ∧
      (run (.frameStart 0) a).link.slot.map (fun r => (r.kind, r.payload.length)) = some (0x81, 22) := by decide

theorem test_frameSent : (run .frameSent { live with link := { live.link with tx := some [0xA6] } }).link.tx = none := by decide

/-! ## Reset and clearing (spec/01, spec/11) -/

theorem test_powerOnReset : (run (.powerOnReset true false) (work .cycling .lift)).link.baud = 2 ∧
    (run (.powerOnReset true false) (work .cycling .lift)).transfer = none := by decide

theorem test_resetPinAsserted : (run .resetPinAsserted { work .cycling .lift with valves := 0x18 }).valves = 0 := by decide

/-- The worked partition change, steps 5, 7 and 8. -/
theorem test_partitionStore :
    let a := run (.partitionStore (ask [0])) live
    a.link.slot = none ∧ reply (.defineType (ask [0, 0x60, 0x6D, 0xDC, 0x50, 180, 0, 3])) a = some (Result.busy.code, []) := by
  decide

theorem test_storeClearingEnd :
    let a := run .storeClearingEnd (run (.partitionStore (ask [0])) live)
    a.store.partition = .p0 ∧ a.link.slot.map Reply.payload = some [0, 0x40, 0x01, 64, 0] := by decide

/-- The worked partition change, step 1: a stack PRESENT refuses the request. -/
theorem test_partitionStore_inUse : reply (.partitionStore (ask [0])) (cell lane2) = some (Result.storeInUse.code, []) := by
  decide

theorem test_waitingReplyPlaced :
    let a := run .storeClearingEnd (run (.queryStatus (ask [])) (run (.partitionStore (ask [0])) live))
    a.waiting.isSome = true ∧
      (run .waitingReplyPlaced { a with link := { a.link with slot := none } }).decoder = .ready := by decide

theorem test_restart : (run (.restart (ask [])) (cell { lane2 with state := .idle })).decoder =
    .restarting { kind := 7, body := ask [] } ∧
    ((run (.restart (ask [])) (cell { lane2 with state := .idle })).lane .l2).state = .parked := by decide

/-! ## Types (spec/01 and spec/04, worked cases) -/

/-- Type A: all eight zones. -/
theorem test_defineType : reply (.defineType (ask [0, 0x60, 0x6D, 0xDC, 0x50, 180, 0, 3])) live = some (0, [0xFF, 8]) := by decide

/-- Type B as class 2 needs four zones and has two; as class 1 it is taken. -/
theorem test_defineType_grip :
    reply (.defineType (ask [1, 0x1A, 0x27, 0x75, 0x17, 180, 0, 2])) live = some (Result.gripShort.code, []) ∧
      reply (.defineType (ask [1, 0x1A, 0x27, 0x75, 0x17, 180, 0, 1])) live = some (0, [0x18, 2]) := by decide

/-- L = 17400 sits on the threshold of zones 2 and 7. -/
theorem test_zone_threshold : zoneCount 17400 = 6 ∧ zoneCount 17399 = 4 := by decide

theorem test_dropType : reply (.dropType (ask [128])) live = some (Result.typeUndefined.code, []) ∧
    reply (.dropType (ask [1])) (cell lane2) = some (Result.typeInUse.code, []) := by decide

theorem test_setTypeCursor : (run (.setTypeCursor (ask [126])) live).store.typeCursor = 126 := by decide

/-- The worked library read: from cursor 126 the records are 126, 127, 0 and 1, and the cursor becomes 2. -/
theorem test_readTypes :
    let s : State := { cell lane2 with store := { (cell lane2).store with typeCursor := 126 } }
    (run (.readTypes (ask [])) s).store.typeCursor = 2 ∧
      (reply (.readTypes (ask [])) s).map (fun r => (r.2.length, r.2.drop 22)) =
        some (44, [0, 1, 0x60, 0x6D, 0xDC, 0x50, 180, 0, 3, 0xFF, 8, 1, 1, 0x1A, 0x27, 0x75, 0x17, 180, 0, 1, 0x18, 2]) := by
  decide

/-- The worked halves of 6005 and of 10010. -/
theorem test_halves : halve .towardDatum 6005 = 3002 ∧ halve .away 6005 = 3003 ∧ halve .even 6005 = 3002 ∧
    halve .towardDatum 10010 = 5005 := by decide

/-! ## Jobs (spec/02, the list across the region boundary) -/

/-- The worked list in partition P3: slots 125 to 127. -/
def list128 : State :=
  { cell lane2 with
    store := { (cell lane2).store with
      partition := .p3
      jobs := { start := 125, entries := [{ job35 with tag := 31 }, { job35 with tag := 32, state := .queued, placed := 0 },
        { job35 with tag := 33, state := .queued, placed := 0, count := 1 }] } } }

/-- Step 1: tag 40 goes to slot 0, position 4. -/
theorem test_enqueueJob : reply (.enqueueJob (ask [40, 0, 1, 5, 2, 90, 244, 1, 0, 3, 0])) list128 = some (0, [0, 0, 4, 0]) := by
  decide

/-- Step 6: a tag an entry carries is refused. -/
theorem test_enqueueJob_tag : reply (.enqueueJob (ask [33, 0, 1, 5, 2, 90, 244, 1, 0, 3, 0])) list128 =
    some (Result.tagInUse.code, []) := by decide

/-- A count equal to placed completes the job. -/
theorem test_amendJob : reply (.amendJob (ask [35, 0, 1, 0, 2, 0])) (cell lane2) = some (0, [2, 1, 0, 1, 0]) := by decide

/-- Step 3: job 32 becomes CANCELLED at once and stays in slot 126. -/
theorem test_cancelJob : ((run (.cancelJob (ask [32, 0])) list128).jobAt 126).map Job.state = some .cancelled := by decide

/-- The worked Order B: a cancel in LIFT is deferred. -/
theorem test_cancelJob_deferred : reply (.cancelJob (ask [35, 0])) (work .cycling .lift) = some (Result.deferred.code, []) := by
  decide

theorem test_readJob : (reply (.readJob (ask [32, 0])) list128).map (fun r => r.2.take 7) = some [126, 0, 2, 0, 1, 32, 0] := by
  decide

/-- FROM-START replies the start pointer. -/
theorem test_setListCursor : reply (.setListCursor (ask [0xFF, 0xFF])) list128 = some (0, [125, 0]) := by decide

theorem test_listJobs : (run (.listJobs (ask [])) { list128 with
    store := { list128.store with listCursor := 127 } }).store.listCursor = 2 := by decide

/-! ## Stacks (spec/03, one stack through a shift) -/

theorem test_setStack : ((run (.setStack (ask [2, 0xD0, 0x07, 0xB8, 0x0B, 0xDC, 0x05])) live).stack .k2).geometrySet = true := by
  decide

/-- Steps 2 and 4: type A, 40 boards, top 8700. -/
theorem test_loadStack :
    let s := run (.setStack (ask [2, 0xD0, 0x07, 0xB8, 0x0B, 0xDC, 0x05])) (cell lane2)
    reply (.loadStack (ask [2, 0, 40, 0])) { s with link := live.link } = some (0, le16 8700) := by decide

/-- Step 3: a count of 98 gives a top of 19140. -/
theorem test_loadStack_height :
    let s := run (.setStack (ask [2, 0xD0, 0x07, 0xB8, 0x0B, 0xDC, 0x05])) (cell lane2)
    reply (.loadStack (ask [2, 0, 98, 0])) { s with link := live.link } = some (Result.stackHeight.code, []) ∧
      reply (.loadStack (ask [2, 0, 97, 0])) { s with link := live.link } = some (0, le16 18960) := by decide

theorem test_unloadStack : reply (.unloadStack (ask [5])) (work .cycling .grip) = some (Result.stackBusy.code, []) ∧
    ((run (.unloadStack (ask [5])) (work .cycling .lift)).stack .k5).present = false := by decide

theorem test_readStacks : (work .cycling .grip).stackRecord .k5 =
    [5, 1, 0x40, 0x9C, 0x20, 0x4E, 0xB0, 0x04, 1, 1, 9, 0, 0, 1, 0x04, 0x0B] := by decide

/-! ## Placement (spec/04, worked cases) -/

/-- Type B from stack 5 on lane 2 at rotation 90: pick (45005, 23002), place (58248, 9005), Ze 2820, place Z 8860. -/
theorem test_verdict : (cell { lane2 with state := .filling book35 }).verdict job35 .l2 =
    .found { mask := 0x18, pick := { x := { pos := 45005, clamped := false }, y := { pos := 23002, clamped := false } },
             place := { x := { pos := 58248, clamped := false }, y := { pos := 9005, clamped := false } },
             ze := 2820, placeZ := 8860 } := by decide

/-- The worked clamp case: an X maximum of 62000 and a clamp tolerance of 20. -/
theorem test_clamp : limitTest 62010 0 62000 20 = some { pos := 62000, clamped := true } ∧
    limitTest 62020 0 62000 20 = some { pos := 62000, clamped := true } ∧ limitTest 62021 0 62000 20 = none := by decide

/-- The worked contact outcomes against Ze 8700. -/
theorem test_contact : contactAccepted 8655 8700 60 = true ∧ contactAccepted 8760 8700 60 = true ∧
    contactAccepted 8761 8700 60 = false ∧ contactAccepted 8640 8700 60 = true := by decide

/-! ## Lanes (spec/05) -/

/-- Lane 2 of the worked cases, with a height limit above the range of R73. -/
def lane2Payload (hmax : List Byte) : List Byte :=
  [2, 0x42, 0xEF, 0xA0, 0x0F, 0xFF, 1, 0x30, 0x75, 0xB0, 0x36, 0x34, 0x21] ++ hmax ++ [8, 1, 60, 0, 20]

theorem test_setLane : ((run (.setLane (ask (lane2Payload [0x84, 0x03]))) live).lane .l2).cfg = lane2.cfg := by decide

theorem test_setLane_adjusted : (reply (.setLane (ask (lane2Payload [0xB1, 0x04]))) live).map Prod.fst =
    some Result.okAdjusted.code := by decide

/-- The worked park under an inbound transfer: DEFERRED, and the lane leaves the idle queue. -/
theorem test_parkLane :
    let s : State := { cell { lane2 with state := .idle, inbound := true } with idleQueue := [{ lane := .l2, age := 5 }] }
    reply (.parkLane (ask [2])) s = some (Result.deferred.code, []) ∧ (run (.parkLane (ask [2])) s).idleQueue = [] := by decide

theorem test_unparkLane : (run (.unparkLane (ask [2])) (cell lane2)).idleQueue = [{ lane := .l2, age := 0 }] ∧
    reply (.unparkLane (ask [1])) (cell lane2) = some (Result.laneUnconfigured.code, []) := by decide

/-- The worked halt, step 5: a close under an inbound transfer is deferred. -/
theorem test_closeBook : reply (.closeBook (ask [2])) (work (.halted .cycling) .toLane) = some (Result.deferred.code, []) := by
  decide

theorem test_readLane : reply (.readLane (ask [5])) live = some (Result.outOfRange.code, []) := by decide

/-- The worked book, step 9: TAKEN on a HANDED lane makes it IDLE at the tail of the idle queue. -/
theorem test_takenPulse :
    let s := run (.takenPulse .l2) (cell { lane2 with state := .handed book35 })
    (s.lane .l2).state = .idle ∧ s.idleQueue = [{ lane := .l2, age := 0 }] := by decide

/-- A TAKEN pulse on a FILLING lane is spurious. -/
theorem test_takenPulse_spurious :
    ((run (.takenPulse .l2) (cell { lane2 with state := .filling book35 })).lane .l2).noteSpurious = true := by decide

theorem test_laneTimerExpiry :
    ((run (.laneTimerExpiry .l2) (cell { lane2 with state := .handed book35, laneTimer := some 0 })).lane .l2).stalled =
      true := by decide

/-- The worked book, step 7. -/
theorem test_bookWaitExpiry :
    (run (.bookWaitExpiry .l2) (cell { lane2 with state := .filling book35, bookTimer := some 0 })).lane .l2 =
      { lane2 with state := .handed book35, laneTimer := some 60000, noteHanded := true, report := some book35 } := by decide

theorem test_sawReadyRise : (run (.sawReadyRise .l1) live).inputs.sawReady.l1 = true := by decide

theorem test_sawReadyFall : (run (.sawReadyFall .l2) (cell lane2)).inputs.sawReady.l2 = false := by decide

theorem test_starveCrossing :
    (run (.starveCrossing .l2) { cell { lane2 with state := .idle } with
      modes := { Modes.powerOn with starve := 60 }, idleQueue := [{ lane := .l2, age := 59999 }] }).idleQueue =
      [{ lane := .l2, age := 60000 }] := by decide +kernel

/-! ## The gantry and the transfer (spec/06, spec/07, spec/08) -/

/-- The cell, IDLE, with a lane open to job 35. -/
def open2 : State :=
  { cell { lane2 with state := .filling book35 } with
    fillingOrder := [.l2], gantry := { GantryCtl.powerOn with state := .idle } }

theorem test_run : (run (.run (ask [])) open2).gantry.state = .cycling ∧
    (run (.run (ask [])) open2).transfer.map (fun t => (t.jobTag, t.placeX, t.placeZ)) = some (35, 58248, 8860) := by decide

theorem test_hold : (run (.hold (ask [])) { open2 with runMode := .run }).runMode = .hold := by decide

theorem test_home : (run (.home (ask [])) live).gantry.driveOut = [.home .z] ∧
    reply (.home (ask [])) (work .cycling .lift) = some (Result.gantryState.code, []) := by decide

theorem test_homedReport :
    let s : State := { live with gantry := { GantryCtl.powerOn with
      state := .homing .one, move := .awaiting { x := false, y := false, z := true, c := false } } }
    (run (.homedReport .z false) s).gantry.state = .homing .two ∧
      (run (.homedReport .z true) s).gantry.state = .homing .one := by decide

/-- The worked transfer, step 10: at the end of LOWER the board is let go. -/
theorem test_inPositionReport :
    let s := { work .cycling .lower with gantry := { (work .cycling .lower).gantry with
      move := .awaiting { x := false, y := false, z := true, c := false } } }
    (run (.inPositionReport .z false 8860) s).transfer.map (fun t => (t.phase, t.held)) = some (.release, false) ∧
      (run (.inPositionReport .z false 8860) s).releaseCounter = .running 80 := by decide

theorem test_dryMoveElapsed :
    (run .dryMoveElapsed { live with gantry := { GantryCtl.powerOn with
      state := .homing .three, dryRun := true, move := .modelled 0 [] } }).gantry.head =
      some { x := 0, y := 0, z := 20000, c := 0 } := by decide

/-- The worked transfer, step 3: a contact at 2810 against Ze 2820. -/
theorem test_contactAsserted :
    (run (.contactAsserted true 2810) (work .cycling .search)).valves = 0x18 ∧
      (run (.contactAsserted true 2810) (work .cycling .search)).gripCounter = .running 150 := by decide

/-- The worked stack, step 9: a contact 180 above Ze makes the stack suspect. -/
theorem test_contactAsserted_mismatch :
    let s := run (.contactAsserted true 3000) (work .cycling .search)
    (s.stack .k5).suspectFlag = true ∧ s.transfer.map Transfer.phase = some .retreat := by decide

/-- R121, R123: in dry run the contact is at exactly Ze, and GRIP is entered with the modelled head there. -/
theorem test_dryMoveElapsed_contact :
    let s : State := { work .cycling .search with
      transfer := some { rec35 .search with leg := .second }
      gantry := { GantryCtl.powerOn with
        state := .cycling, dryRun := true, head := some { x := 45005, y := 23002, z := 3020, c := 0 }
        move := .modelled 0 [{ axis := .z, pos := 2760, search := true }] } }
    (run .dryMoveElapsed s).gantry.head = some { x := 45005, y := 23002, z := 2820, c := 0 } ∧
      (run .dryMoveElapsed s).transfer.map (fun t => (t.phase, t.zc)) = some (.grip, some 2820) := by decide

/-- The worked transfer, step 6: the grip takes a board off the stack. -/
theorem test_gripSettleExpiry :
    let s := run (.gripSettleExpiry true) { work .cycling .grip with gripCounter := .running 0 }
    (s.stack .k5).count = 8 ∧ s.transfer.map (fun t => (t.phase, t.held)) = some (.lift, true) := by decide

/-- R126: HOLD-LOST found asserted at the entry into LIFT is a DROP. -/
theorem test_gripSettleExpiry_lost :
    let s := work .cycling .grip
    let t := run (.gripSettleExpiry true) { s with gripCounter := .running 0, inputs := { s.inputs with holdLost := true } }
    t.fault.entry.map (fun e => (e.kind, e.phase, e.held)) = some (.drop, some .lift, true) ∧ t.holding = false := by decide

/-- Step 4: the first failure is tried again. -/
theorem test_gripSettleExpiry_retry :
    let s := run (.gripSettleExpiry false) { work .cycling .grip with gripCounter := .running 0 }
    s.transfer.map (fun t => (t.phase, t.attempts)) = some (.grip, 2) ∧ s.gripCounter = .running 150 := by decide

/-- The worked halt, step 10: placed 2 and the book of two boards at H 360. -/
theorem test_releaseSettleExpiry :
    let s := run .releaseSettleExpiry { work .cycling .release with releaseCounter := .running 0 }
    (s.lane .l2).state = .filling { book35 with tags := [35, 35], height := 360 } ∧
      (s.jobAt 0).map (fun j => (j.placed, j.state)) = some (2, .active) := by decide

theorem test_halt : (run (.halt (ask [])) (work .cycling .toLane)).gantry.state = .halted .cycling := by decide

theorem test_safetyLineAsserted : (run .safetyLineAsserted (work .cycling .toLane)).gantry.driveOut =
    [.stop .x, .stop .y, .stop .z, .stop .c] := by decide

theorem test_safetyLineReleased :
    (run .safetyLineReleased { live with inputs := { live.inputs with safety := true } }).inputs.safety = false := by decide

/-- The worked halt, step 7: all three targets are issued again. -/
theorem test_resume : (run (.resume (ask []) 0) (work (.halted .cycling) .toLane)).gantry.driveOut =
    [.target { axis := .x, pos := 58248, search := false }, .target { axis := .y, pos := 9005, search := false },
      .target { axis := .c, pos := 90, search := false }] := by decide

/-- R120: a contact found asserted as the approach descent is issued again is at the Z drive's report of that moment. -/
theorem test_resume_contact :
    let s := work (.halted .cycling) .search
    (run (.resume (ask []) 2825) { s with inputs := { s.inputs with contact := true, zReport := 9000 } }).transfer.map
      (fun t => (t.phase, t.zc)) = some (.grip, some 2825) := by decide

/-- The carry aborted: reject Z is Zr + Tk. -/
theorem test_abort : (run (.abort (ask [])) { work .cycling .toLane with
    travel := { Travel.powerOn with xr := 500, yr := 500, zr := 1000 } }).transfer.map Transfer.rejectZ = some (some 1180) := by
  decide

/-! ## Faults (spec/09, a drive fault under a held board) -/

theorem test_driveFaultAsserted :
    let s := run (.driveFaultAsserted .y true) (work .cycling .toLane)
    s.gantry.state = .fault ∧ s.fault.entry.map (fun e => (e.kind, e.found, e.phase, e.jobTag, e.held)) =
      some (.driveY, .cycling, some .toLane, some 35, true) := by decide

/-- Step 2: the limit is counted and does not replace the first fault. -/
theorem test_limitAsserted :
    let s := run (.limitAsserted true) (run (.driveFaultAsserted .y true) (work .cycling .toLane))
    s.fault.entry.map (fun e => (e.kind, e.further)) = some (.driveY, 1) := by decide

theorem test_dropFault :
    let s := run (.dropFault true) (work .cycling .toLane)
    s.transfer.map Transfer.held = some false ∧ (s.jobAt 0).map Job.lost = some 1 := by decide

theorem test_clearFault :
    reply (.clearFault (ask [])) (run (.driveFaultAsserted .y true) (work .cycling .toLane)) =
      some (Result.panelHeld.code, []) := by decide

theorem test_releaseHeld :
    let s := run (.releaseHeld (ask [])) (run (.driveFaultAsserted .y true) (work .cycling .toLane))
    s.transfer.map Transfer.held = some false ∧ (s.jobAt 0).map Job.lost = some 1 := by decide

theorem test_readFault : (reply (.readFault (ask [])) live).map (fun r => r.2.length) = some 21 := by decide

/-! ## Settings (spec/11) -/

/-- The power-on values sent back, but for a window depth of 17. -/
def modesPayload (window dry : Byte) : List Byte :=
  [0, window, 0, 0, dry, 0xF4, 1, 150, 0, 250, 0, 0x90, 1, 0x58, 2, 80, 0, 60, 0, 20, 0]

theorem test_setModes : (reply (.setModes (ask (modesPayload 17 0))) live).map Prod.fst = some Result.okAdjusted.code ∧
    (run (.setModes (ask (modesPayload 17 0))) live).modes.window = 16 := by decide

/-- R150: entry into dry run puts the modelled head over the datum and the gantry in IDLE. -/
theorem test_setModes_dryRun : (run (.setModes (ask (modesPayload 8 1))) live).gantry.state = .idle ∧
    (run (.setModes (ask (modesPayload 8 1))) live).gantry.head = some { x := 0, y := 0, z := 20000, c := 0 } := by decide

/-- A SET TRAVEL of the full ranges with the reject station at Zr 1000. -/
def travelPayload (z : List Byte) : List Byte :=
  [0, 0, 0xE8, 0xFD, 0, 0, 0x30, 0x75, 0, 0, 0xA8, 0x61] ++ z ++ [0xF4, 1, 0xF4, 1, 0xE8, 3]

/-- The worked lowering of the travel height: 9900 conflicts with lane 2, 10400 is accepted and leaves the gantry UNHOMED. -/
theorem test_setTravel :
    let s : State := { cell lane2 with gantry := { GantryCtl.powerOn with state := .idle } }
    reply (.setTravel (ask (travelPayload [0xAC, 0x26]))) s = some (Result.travelConflict.code, []) ∧
      (run (.setTravel (ask (travelPayload [0xA0, 0x28]))) s).gantry.state = .unhomed := by decide

theorem test_readConfig : (reply (.readConfig (ask [])) live).map (fun r => (r.2.length, r.2.take 5)) =
    some (47, [1, 0, 1, 128, 0]) := by decide

theorem test_queryStatus : (reply (.queryStatus (ask [])) (work .cycling .lift)).map (fun r => (r.2.length, r.2.take 9)) =
    some (22, [0, 1, 35, 0, 5, 2, 4, 1, 1]) := by decide

/-! ## Witnesses: for each statement with hypotheses, operands and states that meet them, clause by clause -/

theorem live_ready : live.ready := ⟨⟨rfl, rfl, rfl, rfl⟩, rfl⟩

theorem cell_ready (v : Lane) : (cell v).ready := ⟨⟨rfl, rfl, rfl, rfl⟩, rfl⟩

theorem work_ready (g : Gantry) (p : Phase) : (work g p).ready := ⟨⟨rfl, rfl, rfl, rfl⟩, rfl⟩

/-- The cell, IDLE or in another gantry state, with no transfer. -/
def still (g : Gantry) : State :=
  { live with gantry := { GantryCtl.powerOn with state := g } }

theorem still_ready (g : Gantry) : (still g).ready := ⟨⟨rfl, rfl, rfl, rfl⟩, rfl⟩

/-- The part with the safety line asserted. -/
def guarded (g : Gantry) : State :=
  { still g with inputs := { live.inputs with safety := true } }

theorem guarded_ready (g : Gantry) : (guarded g).ready := ⟨⟨rfl, rfl, rfl, rfl⟩, rfl⟩

/-- A reply in the slot. -/
def answered : Reply :=
  { kind := 0x9D, tag := 7, result := 0, payload := [] }

/-- The part with a reply in the slot, HOST-READY asserted and a frame held or not. -/
def sending (slot : Option Reply) (held : Option Frame) : State :=
  { live with inputs := { live.inputs with hostReady := true }, link := { live.link with slot := slot, held := held } }

theorem witness_StepTakesTheFrontCommand :
    ({ live with pending := [.hold (ask []), .frameStart 0] } : State).pending = .hold (ask []) :: [.frameStart 0] := rfl

theorem witness_IdleStepIsAMillisecond :
    (live.pending = [] ∧ live.resetHeld = false) ∧
    (({ live with resetHeld := true } : State).pending = [] ∧ ({ live with resetHeld := true } : State).resetHeld = true) ∧
    ({ live with gripCounter := .running 1 } : State).gripCounter = .running 1 ∧ (∀ n, live.gripCounter ≠ .running n) ∧
    ({ live with releaseCounter := .running 1 } : State).releaseCounter = .running 1 ∧
    (∀ n, live.releaseCounter ≠ .running n) ∧
    (still .idle).gantry.move = .still ∧ (∀ n ts, live.gantry.move ≠ .modelled n ts) ∧
    ({ live with gantry := { live.gantry with move := .modelled 1 [] } } : State).gantry.move = .modelled 1 [] :=
  ⟨⟨rfl, rfl⟩, ⟨rfl, rfl⟩, rfl, nofun, rfl, nofun, rfl, nofun, rfl⟩

theorem witness_ResetPinSilencesThePart : ({ live with resetHeld := true } : State).resetHeld = true ∧
    (∀ a b, Instr.frameStart 0 ≠ .powerOnReset a b) ∧ Instr.frameStart 0 ≠ .resetPinAsserted ∧
    ({ live with resetHeld := true } : State).inputs.safety = false :=
  ⟨rfl, nofun, nofun, rfl⟩

theorem witness_ReceiverFollowsItsStates :
    let one : Receiver := .assembling [0xA6]
    let two : Receiver := .assembling [0xA6, 0]
    let all : Receiver := .assembling [0xA6, 0, 1, 5, 1]
    live.resetHeld = false ∧ live.link.rx = .hunting ∧ one = .assembling [0xA6] ∧ [(0xA6 : Byte)].length = 1 ∧
      56 < (57 : Byte).toNat ∧ (56 : Byte).toNat ≤ 56 ∧ two = .assembling [0xA6, 0] ∧ 2 ≤ [(0xA6 : Byte), 0].length ∧
      [(0xA6 : Byte), 0].length < u8 [0xA6, 0] 1 + 5 ∧ all = .assembling [0xA6, 0, 1, 5, 1] ∧
      [(0xA6 : Byte), 0, 1, 5, 1].length = u8 [0xA6, 0, 1, 5, 1] 1 + 5 ∧
      byteSum ([0xA6, 0, 1, 5, 1] ++ [0x54]) ≠ 0 := by decide

theorem witness_CharactersOfAFrameAreTheRequest : live.link.rx = .hunting ∧
    (List.replicate 56 (0 : Byte)).length ≤ 56 ∧ live.inputs.zReport = 0 ∧ (0x23 : Byte) ≠ 0x1F := by decide

theorem witness_FrameIsHeldOrOverruns :
    (sending (some answered) (some { kind := 1, body := ask [] })).resetHeld = false ∧
      (ask (List.replicate 56 0)).fits = true ∧
      (sending (some answered) (some { kind := 1, body := ask [] })).link.held.isSome = true ∧
      (sending (some answered) none).link.held = none ∧ (sending (some answered) none).link.slot.isSome = true := by decide

theorem witness_DecoderRefusesInOrder :
    live.takesAtOnce ∧ (ask []).payload.length ≤ 56 ∧ (0 : Byte).toNat = 0 ∧ 0x22 < (0x23 : Byte).toNat ∧
      (ask []).payload.length ≠ RequestKind.setStack.payloadLength ∧ State.reset.takesAtOnce ∧
      (ask []).payload.length = RequestKind.run.payloadLength ∧ State.reset.decoder ≠ .ready ∧
      RequestKind.run ≠ .queryStatus :=
  ⟨live_ready.1, by decide, by decide, by decide, by decide, ⟨rfl, rfl, rfl, rfl⟩, by decide, by decide, by decide⟩

theorem witness_EveryRequestIsAnswered : live.ready ∧ (ask []).payload.length = RequestKind.run.payloadLength ∧
    RequestKind.run ≠ .partitionStore ∧ RequestKind.run ≠ .restart ∧
    ({ tag := 7, flags := 1, payload := [] } : Body).flags.getLsbD 0 = true :=
  ⟨live_ready, by decide, by decide, by decide, by decide⟩

/-- The part with HOST-READY asserted, nothing to send but what `f` sets. -/
def waits (f : State → State) : State :=
  f (sending none none)

theorem witness_FrameStartFollowsTheOrder :
    ((sending (some answered) none).resetHeld = false ∧ (sending (some answered) none).link.tx = none ∧
      (sending (some answered) none).inputs.hostReady = true ∧ (sending (some answered) none).link.slot = some answered ∧
      (sending (some answered) none).link.held = none) ∧
    ((sending (some answered) (some { kind := 1, body := ask [] })).link.held = some { kind := 1, body := ask [] } ∧
      (sending (some answered) (some { kind := 1, body := ask [] })).waiting = none ∧ (ask []).fits = true ∧
      RequestKind.queryStatus.code = 1 ∧ kindKnown 0x23 = false) ∧
    ((sending none none).link.slot = none ∧ (waits fun s => { s with fault := { s.fault with note := true } }).fault.note =
      true) ∧
    (live.fault.note = false ∧
      (waits fun s => { s with gantry := { s.gantry with noteHomed := true } }).gantryNoticePending = true) ∧
    (live.gantryNoticePending = false ∧
      ((waits fun s => { s with lanes := { s.lanes with l4 := { Lane.powerOn with noteParked := true } } }).lane
        .l4).noticePending = true ∧
      ∀ m, laneCode m < laneCode .l4 →
        ((waits fun s => { s with lanes := { s.lanes with l4 := { Lane.powerOn with noteParked := true } } }).lane
          m).noticePending = false) ∧
    ((∀ l, (live.lane l).noticePending = false) ∧
      (waits fun s => { s with stackTable := { s.stackTable with k8 := { StackRec.powerOn with emptyFlag := true } } }
        ).stackNoticePending = true) ∧
    (live.stackNoticePending = false ∧
      (waits fun s => { s with notices := { fifo := [job35.notice], lost := false } }).notices.fifo = [job35.notice]) :=
  ⟨by decide, by decide, by decide, by decide,
    ⟨by decide, by decide, fun m => by cases m <;> decide⟩, ⟨fun l => by cases l <;> decide, by decide⟩, by decide⟩

theorem witness_NothingStartsWithoutHostReady : live.resetHeld = false ∧ live.inputs.hostReady = false ∧
    ({ live with link := { live.link with tx := some [0xA6] } } : State).link.tx.isSome = true ∧
    live.link.slot = none ∧ live.fault.note = false ∧ live.gantryNoticePending = false ∧
    (∀ l, (live.lane l).noticePending = false) ∧ live.stackNoticePending = false ∧ live.notices.fifo = [] :=
  ⟨rfl, rfl, rfl, rfl, rfl, rfl, fun l => by cases l <;> decide, by decide, rfl⟩

/-- The clearing of a request. -/
def clearing (d : Decoder) (w : Option WaitingReply) : State :=
  { live with decoder := d, waiting := w }

theorem witness_ClearingEndsWithItsReply :
    let f : Frame := { kind := 6, body := ask [0] }
    let w : WaitingReply := { request := f, payload := [] }
    live.resetHeld = false ∧ State.reset.waiting = none ∧ State.reset.decoder = .starting ∧
      (clearing (.partitioning .p0 f) none).waiting = none ∧
      (clearing (.partitioning .p0 f) none).decoder = .partitioning .p0 f ∧
      (clearing (.restarting f) none).decoder = .restarting f ∧ live.decoder = .ready ∧
      (clearing (.restarting f) (some w)).waiting = some w ∧ (clearing (.restarting f) (some w)).link.slot = none ∧
      live.waiting = none := by decide

theorem witness_PartitionStoreNeedsAnEmptyCell :
    (live.ready ∧ (ask [4]).payload.length = 1 ∧ ∀ p : Partition, u8 (ask [4]).payload 0 ≠ p.code) ∧
    (u8 (ask [0]).payload 0 = Partition.p0.code ∧ u8 (ask [3]).payload 0 = Partition.p3.code) ∧
    ((cell lane2).ready ∧ (cell lane2).store.jobs.entries ≠ []) ∧
    (live.store.jobs.entries = [] ∧ (∀ k, (live.stack k).present = false) ∧ (∀ l, (live.lane l).state.book = none) ∧
      live.gantry.state ≠ .cycling ∧ live.gantry.state ≠ .aborting ∧ live.gantry.state ≠ .halted .cycling ∧
      live.gantry.state ≠ .halted .aborting ∧ (live.gantry.state = .fault → live.transfer = none)) :=
  ⟨⟨live_ready, rfl, fun p => by cases p <;> decide⟩, by decide, ⟨cell_ready _, by decide⟩,
    rfl, fun k => by cases k <;> decide, fun l => by cases l <;> decide, by decide, by decide, by decide, by decide,
    fun _ => rfl⟩

theorem witness_RestartParksAndEmpties :
    ((still (.halted .idle)).ready ∧ (ask []).payload = [] ∧ (still (.halted .idle)).gantry.state = .halted .idle) ∧
    ((work .fault .lift).ready ∧ (work .fault .lift).gantry.state = .fault ∧ (work .fault .lift).holding = true) ∧
    ((work .fault .grip).ready ∧ (work .fault .grip).gantry.state = .fault ∧ (work .fault .grip).holding = false) :=
  ⟨⟨still_ready _, rfl, rfl⟩, ⟨work_ready _ _, rfl, rfl⟩, work_ready _ _, rfl, rfl⟩

theorem witness_ZoneMaskIsTheZoneTest :
    (7, (10500 : Int)) ∈ [(0, -10500), (1, -7500), (2, -4500), (3, -1500), (4, 1500), (5, 4500), (6, 7500),
      (7, (10500 : Int))] := by decide

theorem witness_HalvesFootprintsAndLimits :
    6006 % 2 = 0 ∧ 6005 % 2 = 1 ∧ 0 ≤ 62000 ∧ ((0 : Nat) : Int) ≤ 62000 ∧ (62000 : Int) ≤ (62000 : Nat) ∧
      ((62000 : Nat) : Int) < 62020 ∧ (62020 : Int) - (62000 : Nat) ≤ (20 : Nat) ∧ (-20 : Int) < (0 : Nat) ∧
      ((0 : Nat) : Int) - (-20) ≤ (20 : Nat) ∧ ((20 : Nat) : Int) < 62021 - (62000 : Nat) := by decide

theorem witness_DefineTypeWritesTheEntry :
    let a := ask [127, 0x60, 0x6D, 0xDC, 0x50, 180, 0, 3]
    let b := ask [1, 0x1A, 0x27, 0x75, 0x17, 180, 0, 1]
    ((cell lane2).ready ∧ a.payload.length = 8 ∧ 128 ≤ u8 (ask [128, 0, 0, 0, 0, 0, 0, 0]).payload 0) ∧
    (u8 a.payload 0 < (cell lane2).store.partition.typeSlots ∧
      ¬ Between 1 4 (u8 (ask [127, 0x60, 0x6D, 0xDC, 0x50, 180, 0, 5]).payload 7)) ∧
    (Between 5400 56000 (u16 a.payload 1) ∧ Between 2000 22000 (u16 a.payload 3) ∧ Between 30 800 (u16 a.payload 5) ∧
      Between 1 4 (u8 a.payload 7)) ∧
    zoneCount (u16 b.payload 1) < 2 * u8 (ask [1, 0x1A, 0x27, 0x75, 0x17, 180, 0, 2]).payload 7 ∧
    (2 * u8 b.payload 7 ≤ zoneCount (u16 b.payload 1) ∧
      (lookupType (cell lane2).store.types (u8 b.payload 0)).isSome = true ∧
      (cell lane2).typeInUse (u8 b.payload 0) = true) ∧
    (2 * u8 a.payload 7 ≤ zoneCount (u16 a.payload 1) ∧ lookupType (cell lane2).store.types (u8 a.payload 0) = none) := by
  unfold Between
  exact ⟨⟨cell_ready _, by decide⟩, by decide, by decide, by decide, by decide, by decide⟩

theorem witness_DropTypeActsByItsTable :
    ((cell lane2).ready ∧ (cell lane2).store.wf = true ∧
      (cell lane2).store.partition.typeSlots ≤ u8 (ask [128]).payload 0) ∧
    (u8 (ask [127]).payload 0 < (cell lane2).store.partition.typeSlots ∧
      lookupType (cell lane2).store.types (u8 (ask [127]).payload 0) = none) ∧
    ((lookupType (cell lane2).store.types (u8 (ask [1]).payload 0)).isSome = true ∧
      ∃ j ∈ (cell lane2).store.jobs.entries, j.type = u8 (ask [1]).payload 0) ∧
    ((lookupType (cell lane2).store.types (u8 (ask [0]).payload 0)).isSome = true ∧
      (∀ j ∈ (cell lane2).store.jobs.entries, j.type ≠ u8 (ask [0]).payload 0) ∧
      (∀ k, ((cell lane2).stack k).present = true → ((cell lane2).stack k).type ≠ u8 (ask [0]).payload 0) ∧
      (∀ l bk, ((cell lane2).lane l).state.book = some bk → bk.key.type ≠ u8 (ask [0]).payload 0) ∧
      (∀ t, (cell lane2).transfer = some t → t.key.type ≠ u8 (ask [0]).payload 0)) :=
  ⟨⟨cell_ready _, by decide, by decide⟩, by decide, by decide, by decide, by decide,
    fun k => by cases k <;> decide, fun l bk h => by cases l <;> simp [cell, live, lane2, State.reset, Lane.powerOn, State.lane, PerLane.get, LaneState.book] at h,
    fun t h => by simp [cell, live, State.reset] at h⟩

theorem witness_CursorsTakeValidValues : live.ready ∧ (ask [127]).payload.length = 1 ∧ (ask [0xFF, 0xFF]).payload.length = 2 ∧
    u8 (ask [127]).payload 0 < live.store.partition.typeSlots ∧ u16 (ask [0xFF, 0]).payload 0 < live.store.partition.jobSlots :=
  ⟨live_ready, by decide, by decide, by decide, by decide⟩

theorem witness_ReadsWalkFromTheirCursors : (cell lane2).ready ∧ (ask []).payload = [] ∧ (cell lane2).store.wf = true ∧
    lookupType (cell lane2).store.types 2 = none ∧ lookupType (cell lane2).store.types 1 = some typeB ∧
    (cell lane2).jobAt 1 = none ∧ (cell lane2).jobAt 0 = some job35 :=
  ⟨cell_ready _, rfl, by decide, by decide, by decide, by decide, by decide⟩

/-- R164's summary block of the cell at work, CYCLING in LIFT, in HOLD: lane 2 FILLING with its saw ready, one job in the list, and
the OVERRUN of the worked sequence of R178. -/
theorem test_summary : ({ work .cycling .lift with link := { live.link with lastError := .overrun } } : State).summary =
    [3, 4, 0, 0, 0x12, 0, 0, 1, 0, 6] := by decide

theorem witness_StatusAndFaultAreReported : (work .cycling .lift).takesAtOnce ∧ (ask []).payload = [] ∧
    (work .cycling .lift).transfer = some (rec35 .lift) ∧ live.transfer = none ∧ live.decoder = .ready :=
  ⟨(work_ready _ _).1, rfl, rfl, rfl, rfl⟩

theorem witness_ConfigIsReported : live.ready ∧ (ask []).payload = [] :=
  ⟨live_ready, rfl⟩

theorem witness_RecordsAreReported : (cell lane2).ready ∧ (ask []).payload = [] ∧
    (∀ l, u8 (ask [5]).payload 0 ≠ laneCode l) ∧ (∀ l, u8 (ask [0]).payload 0 ≠ laneCode l) ∧
    u8 (ask [4]).payload 0 = laneCode .l4 ∧
    (∀ ms, secondsOf ms = ms / 1000 + (if ms % 1000 ≠ 0 ∧ Config.startedSecondCounts ms = true then 1 else 0)) ∧
    (∀ e ∈ live.idleQueue, e.lane ≠ LaneNo.l4) ∧ LaneNo.l4 ∉ live.fillingOrder ∧
    ([⟨.l2, 0⟩, ⟨.l4, 0⟩] : List IdleEntry) = [⟨.l2, 0⟩] ++ ⟨.l4, 0⟩ :: [] ∧
    (∀ x ∈ ([⟨.l2, 0⟩] : List IdleEntry), x.lane ≠ LaneNo.l4) ∧
    ([.l2, .l4] : List LaneNo) = [.l2] ++ .l4 :: [] ∧ LaneNo.l4 ∉ ([.l2] : List LaneNo) ∧
    (∀ j ∈ (cell lane2).store.jobs.entries, j.tag ≠ u16 (ask [36, 0]).payload 0) ∧
    (cell lane2).store.jobs.entries[0]? = some job35 ∧ job35.tag = u16 (ask [35, 0]).payload 0 ∧
    (∀ i < 0, ∀ k, (cell lane2).store.jobs.entries[i]? = some k → k.tag ≠ job35.tag) :=
  ⟨cell_ready _, rfl, fun l => by cases l <;> decide, fun l => by cases l <;> decide, by decide, fun ms => by
      by_cases h : ms % 1000 = 0 <;> simp [secondsOf, h], by decide, by decide, rfl, by decide, rfl, by decide, by decide,
    by decide, by decide, fun i h => absurd h (Nat.not_lt_zero i)⟩

theorem witness_EnqueueAppendsTheJob :
    let b := ask [40, 0, 1, 5, 2, 90, 0xFF, 0x0F, 1, 0xE7, 3]
    ((cell lane2).ready ∧ b.payload.length = 11 ∧ 999 < u16 (ask [40, 0, 1, 5, 2, 90, 0, 0, 1, 0xE8, 3]).payload 9) ∧
    (u16 b.payload 0 ≠ 0 ∧ u8 b.payload 3 = StackNo.k5.code ∧ u8 b.payload 4 = jobLaneCode (some .l2) ∧
      u8 b.payload 5 = Rotation.r90.degrees ∧ u16 b.payload 6 ≤ 4095 ∧ u8 b.payload 8 = (if true then 1 else 0) ∧
      u16 b.payload 9 ≠ 0 ∧ u16 b.payload 9 ≤ 999) :=
  ⟨⟨cell_ready _, by decide, by decide⟩, by decide⟩

theorem witness_AmendChangesALiveJob :
    let b := ask [35, 0, 1, 0, 0, 1]
    ((cell lane2).ready ∧ b.payload.length = 6 ∧ 999 < u16 (ask [35, 0, 0xE8, 3, 0, 1]).payload 2) ∧
    (u16 b.payload 0 ≠ 0 ∧ u16 b.payload 2 ≠ 0 ∧ u16 b.payload 2 ≤ 999 ∧ u8 b.payload 4 = jobLaneCode none ∧
      u8 b.payload 5 = (if true then 1 else 0)) ∧
    live.findTag (u16 b.payload 0) = none ∧
    (cell lane2).findTag (u16 b.payload 0) = some { slot := 0, pos := 1, job := job35 } :=
  ⟨⟨cell_ready _, by decide, by decide⟩, by decide, by decide, by decide⟩

theorem witness_CancelNowOrDeferred : (cell lane2).ready ∧ (ask [35, 0]).payload.length = 2 ∧
    (cell lane2).findTag (u16 (ask [36, 0]).payload 0) = none ∧
    (cell lane2).findTag (u16 (ask [35, 0]).payload 0) = some { slot := 0, pos := 1, job := job35 } :=
  ⟨cell_ready _, by decide, by decide, by decide⟩

theorem witness_FinishingNotifiesAndRetires : (cell lane2).store.wf = true ∧ (cell lane2).jobAt 0 = some job35 := by decide

theorem witness_StacksAreSetAndUnloaded :
    (live.ready ∧ (ask [9, 0, 0, 0, 0, 0, 0]).payload.length = 7 ∧
      ∀ k : StackNo, u8 (ask [9, 0, 0, 0, 0, 0, 0]).payload 0 ≠ k.code) ∧
    u8 (ask [8, 0, 0, 0, 0, 0, 0]).payload 0 = StackNo.k8.code ∧
    (∀ k : StackNo, u8 (ask [9]).payload 0 ≠ k.code) ∧ (ask [5]).payload.length = 1 ∧
    u8 (ask [5]).payload 0 = StackNo.k5.code ∧
    (∃ t, (work .cycling .grip).transfer = some t ∧ t.stack = .k5 ∧ t.phase ∈ [Phase.toStack, .search, .grip]) ∧
    (∀ t, (work .cycling .lift).transfer = some t → t.stack = .k5 → t.phase ∉ [Phase.toStack, .search, .grip]) :=
  ⟨⟨live_ready, rfl, fun k => by cases k <;> decide⟩, by decide, fun k => by cases k <;> decide, rfl, by decide,
    ⟨rec35 .grip, by decide⟩, fun t h => by cases h; decide⟩

theorem witness_LoadStackFillsTheStack :
    (live.ready ∧ (ask [9, 0, 40, 0]).payload.length = 4 ∧ ∀ k : StackNo, u8 (ask [9, 0, 40, 0]).payload 0 ≠ k.code) ∧
    ((cell lane2).ready ∧ u8 (ask [5, 1, 12, 0]).payload 0 = StackNo.k5.code ∧
      3360 = ((cell lane2).stack .k5).zf + u16 (ask [5, 1, 12, 0]).payload 2 *
        ((cell lane2).typeEntry (u8 (ask [5, 1, 12, 0]).payload 1)).thk) :=
  ⟨⟨live_ready, rfl, fun k => by cases k <;> decide⟩, cell_ready _, by decide, by decide⟩

theorem witness_SetLaneStoresTheConfiguration :
    let b := ask (lane2Payload [0xB1, 0x04])
    (live.ready ∧ b.payload.length = 20 ∧ ∀ l, u8 (ask [5]).payload 0 ≠ laneCode l) ∧
    (u8 b.payload 0 = laneCode .l2 ∧ ((cell { lane2 with state := .idle }).lane .l2).state ≠ .parked) ∧
    ((live.lane .l2).state = .parked ∧ ∀ m : TimerMode, u8 (ask [3]).payload 0 ≠ m.code) ∧
    (u8 b.payload 5 = Sign.minus.code ∧ u8 b.payload 6 = Sign.plus.code ∧ u8 b.payload 16 = TimerMode.monitor.code) :=
  ⟨⟨live_ready, by decide, fun l => by cases l <;> decide⟩, by decide, ⟨rfl, fun m => by cases m <;> decide⟩, by decide⟩

/-- The cell with lane 2 in a state, with or without inbound and park-request. -/
def lane2In (st : LaneState) (inbound park : Bool) : State :=
  cell { lane2 with state := st, inbound := inbound, parkRequest := park }

theorem lane2In_ready (st : LaneState) (i p : Bool) : (lane2In st i p).ready := cell_ready _

theorem witness_CloseBookActsByItsTable :
    (live.ready ∧ (ask [5]).payload.length = 1 ∧ ∀ l, u8 (ask [5]).payload 0 ≠ laneCode l) ∧
    (u8 (ask [2]).payload 0 = laneCode .l2 ∧ ((lane2In .idle false false).lane .l2).state = .idle) ∧
    (∀ i p, (lane2In (.filling book35) i p).ready) ∧
    (((lane2In (.filling book35) true false).lane .l2).state = .filling book35 ∧
      ((lane2In (.filling book35) true false).lane .l2).inbound = true) ∧
    (((lane2In (.filling book35) false false).lane .l2).state = .filling book35 ∧
      ((lane2In (.filling book35) false false).lane .l2).inbound = false) :=
  ⟨⟨live_ready, rfl, fun l => by cases l <;> decide⟩, by decide, fun _ _ => cell_ready _, by decide, by decide⟩

theorem witness_ParkLaneActsByItsTable :
    (live.ready ∧ (ask [5]).payload.length = 1 ∧ ∀ l, u8 (ask [5]).payload 0 ≠ laneCode l) ∧
    (u8 (ask [2]).payload 0 = laneCode .l2 ∧ ((cell lane2).lane .l2).state = .parked) ∧
    (((lane2In .idle true true).lane .l2).state ≠ .parked ∧ ((lane2In .idle true true).lane .l2).parkRequest = true) ∧
    (((lane2In .idle false false).lane .l2).parkRequest = false ∧ ((lane2In .idle false false).lane .l2).inbound = false) ∧
    ((lane2In .idle true false).lane .l2).inbound = true ∧
    ((lane2In (.filling book35) false false).lane .l2).state = .filling book35 ∧
    ((lane2In (.handed book35) false false).lane .l2).state = .handed book35 :=
  ⟨⟨live_ready, rfl, fun l => by cases l <;> decide⟩, by decide, by decide, by decide, by decide, by decide, by decide⟩

theorem witness_UnparkLaneActsByItsTable :
    (live.ready ∧ (ask [0]).payload.length = 1 ∧ ∀ l, u8 (ask [0]).payload 0 ≠ laneCode l) ∧
    (u8 (ask [1]).payload 0 = laneCode .l1 ∧ (live.lane .l1).configured = false) ∧
    (u8 (ask [2]).payload 0 = laneCode .l2 ∧ ((cell lane2).lane .l2).configured = true ∧
      ((cell lane2).lane .l2).state = .parked) ∧
    (((lane2In .idle true true).lane .l2).state = .idle ∧ ((lane2In .idle true true).lane .l2).parkRequest = true) ∧
    ((lane2In (.handed book35) false true).lane .l2).state = .handed book35 ∧
    ((lane2In .idle false false).lane .l2).parkRequest = false :=
  ⟨⟨live_ready, rfl, fun l => by cases l <;> decide⟩, by decide, by decide, by decide, by decide, by decide⟩

theorem witness_CloseTestDecidesTheBook :
    let s := lane2In (.filling book35) true false
    ((lane2In .idle true false).lane .l2).state = .idle ∧ (s.lane .l2).state = .filling book35 ∧
      ((lane2In (.filling book35) true true).lane .l2).parkRequest = true ∧ (s.lane .l2).closePending = false ∧
      (s.lane .l2).parkRequest = false ∧ book35.tags.length < (s.lane .l2).cfg.countLimit ∧
      book35.height + (s.typeEntry book35.key.type).thk ≤ (s.lane .l2).cfg.hmax ∧
      ∃ j ∈ s.store.jobs.entries.take s.modes.window, j.live = true ∧ j.cancelPending = false ∧
        1 ≤ j.count - (j.placed + (if j.inFlight then 1 else 0)) ∧ j.type = book35.key.type ∧
        j.pattern = book35.key.pattern ∧ j.rotation = book35.key.rotation ∧ (j.lane = none ∨ j.lane = some .l2) := by
  decide

theorem witness_LanesAreTakenOverStalledAndClosed :
    let dry : State := { cell lane2 with gantry := { GantryCtl.powerOn with dryRun := true } }
    let timed := cell { lane2 with state := .handed book35, laneTimer := some 0 }
    (cell lane2).resetHeld = false ∧ dry.gantry.dryRun = true ∧ (cell lane2).gantry.dryRun = false ∧
      ((cell lane2).lane .l2).cfg.timerMode ≠ .pace ∧ ((cell lane2).lane .l2).state.book = none ∧
      (timed.lane .l2).state = .handed book35 ∧ (timed.lane .l2).laneTimer.isSome = true ∧
      (timed.lane .l2).cfg.timerMode = .monitor ∧ (timed.lane .l2).parkRequest = false ∧
      ((lane2In (.handed book35) false true).lane .l2).parkRequest = true ∧
      ((cell lane2).lane .l2).laneTimer = none ∧
      ((cell { lane2 with bookTimer := some 0 }).lane .l2).bookTimer.isSome = true ∧
      ((cell { lane2 with bookTimer := some 0 }).lane .l2).inbound = false ∧
      ((cell lane2).lane .l2).bookTimer = none := by decide

theorem witness_SawReadyAndStarvingReevaluate :
    let s : State := { live with modes := { Modes.powerOn with starve := 1 },
                                 idleQueue := [{ lane := .l1, age := 0 }, { lane := .l2, age := 0 }] }
    s.resetHeld = false ∧ live.modes.starve = 0 ∧ (∀ e ∈ s.idleQueue, e.lane ≠ .l3) ∧ 0 < s.modes.starve ∧
      s.idleQueue = [{ lane := .l1, age := 0 }] ++ { lane := .l2, age := 0 } :: [] ∧
      ∀ x ∈ [({ lane := .l1, age := 0 } : IdleEntry)], x.lane ≠ .l2 := by decide

theorem witness_RunAndHoldSetTheMode : live.ready ∧ (ask []).payload = [] ∧ live.gantry.state ≠ .idle ∧
    live.runMode = .hold ∧ (guarded .idle).inputs.safety = true :=
  ⟨live_ready, rfl, by decide, rfl, rfl⟩

theorem open2_lists : open2.ListsExact :=
  ⟨fun l => by cases l <;> decide,
    fun l => by
      cases l <;> simp [open2, cell, live, State.reset, State.lane, PerLane.get, Lane.powerOn],
    by decide, by decide, fun l => by cases l <;> decide, fun l => by cases l <;> decide⟩

/-- The entry of `job35` in the window of `open2`. -/
def entry35 : Located :=
  { slot := 0, pos := 1, job := job35 }

/-- A hit, and `open2` with the stack of job 35 unsupplied, where no pair is weighed. -/
theorem witness_MatchIsOpenAndEligible :
    (open2.scan.hit.map fun h => (h.lane, h.slot, h.job)) = some (.l2, 0, job35) ∧ open2.window[0]? = some entry35 ∧
    (open2.store.wf = true ∧ open2.ListsExact) ∧
    (∀ l, open2.laneOpen l = true ↔ ((open2.lane l).state = .idle ∨ ∃ bk, (open2.lane l).state = .filling bk) ∧
      (open2.lane l).parkRequest = false ∧ (open2.lane l).inbound = false ∧
      (open2.gantry.dryRun = true ∨ open2.inputs.sawReady.get l = true)) ∧
    (∀ e, open2.starved e = true ↔ 0 < open2.modes.starve ∧ open2.modes.starve * 1000 ≤ e.age) ∧
    (∃ weighs : LaneNo × Located → Bool, weighs (.l2, entry35) = true ∧
      ∀ l e, weighs (l, e) = true ↔ e.job.live = true ∧ e.job.cancelPending = false ∧
        1 ≤ e.job.count - (e.job.placed + (if e.job.inFlight then 1 else 0)) ∧
        (open2.stack e.job.stack).present = true ∧ (open2.stack e.job.stack).suspect = false ∧
        1 ≤ (open2.stack e.job.stack).count ∧ (open2.stack e.job.stack).type = e.job.type ∧
        (e.job.lane = none ∨ e.job.lane = some l)) ∧
    [(LaneNo.l2, entry35)] = [] ++ (LaneNo.l2, entry35) :: [] ∧
    ({ open2 with stackTable := live.stackTable } : State).scan.hit = none :=
  ⟨by decide, by decide, ⟨by decide, open2_lists⟩,
    fun l => by cases l <;> simp [State.laneOpen, open2, cell, live, State.reset, State.lane, State.sawReady, PerLane.get, Lane.powerOn, LaneState.serves, lane2, GantryCtl.powerOn],
    fun e => by simp [State.starved],
    ⟨fun q => open2.eligible q.2.job && q.2.job.accepts q.1, by decide, fun l e => by
      simp [State.eligible, StackRec.supplies, Job.accepts, Job.remaining, Job.supplied, and_assoc]
      intros
      exact decide_eq_true_iff⟩, rfl, by decide⟩

/-- Each case of the verdict: the pick out of reach; a fixed lane that does not fit, and one beyond reach; lane ANY while
another lane serves it, and while none does; an IDLE lane, a FILLING lane that takes the job and one that does not, and lanes
that are PARKED and HANDED. -/
theorem witness_VerdictFollowsItsTests :
    let s := lane2In (.filling book35) false false
    let far : State := { s with travel := { s.travel with xMax := 45000 - 16 } }
    let near : State := { s with travel := { s.travel with xMax := 58000 } }
    let narrow := cell { lane2 with cfg := { lane2.cfg with wt := 10009 } }
    let any : Job := { job35 with lane := none }
    (far.verdict job35 .l2 = .fail .reach) ∧ (job35.lane = some .l2 ∧ narrow.verdict job35 .l2 = .fail .fit) ∧
      (near.verdict job35 .l2 = .fail .reach) ∧
      (any.lane = none ∧ (s.lane .l2).configured = true ∧ s.verdict any .l1 = .skip) ∧
      (narrow.verdict any .l2 = .fail .fit) ∧
      ((lane2In .idle false false).lane .l2).state = .idle ∧
      (book35.key = { type := job35.type, pattern := job35.pattern, rotation := job35.rotation } ∧
        book35.height + typeB.thk ≤ (s.lane .l2).cfg.hmax ∧ book35.tags.length < (s.lane .l2).cfg.countLimit) ∧
      (s.verdict { job35 with pattern := 501 } .l2 = .skip) ∧
      ((lane2In .parked false false).verdict job35 .l2 = .skip) ∧
      ((lane2In (.handed book35) false false).verdict job35 .l2 = .skip) := by decide

/-- The cell of `open2` in RUN. -/
def runs : State :=
  { open2 with runMode := .run }

theorem witness_SelectionCreatesTheRecord :
    runs.gantry.state = .idle ∧ runs.runMode = .run ∧ runs.inputs.safety = false ∧ runs.fault.entry = none ∧
      runs.scan.hit.isSome = true ∧ runs.gantry.dryRun = false ∧ runs.inputs.assertedFaults = [] ∧
      ({ still .idle with runMode := .run } : State).scan.hit = none ∧
      ({ still .idle with runMode := .run } : State).scan.failed = false ∧
      (let unfit : State := { runs with travel := { runs.travel with xMax := 58000 } };
        unfit.scan.hit = none ∧ unfit.scan.failed = true) ∧
      (let dry : State := { runs with gantry := { runs.gantry with dryRun := true } };
        dry.gantry.dryRun = true ∧ dry.scan.hit.isSome = true) ∧
      (let trips : State := { runs with inputs := { runs.inputs with
          limit := true, driveFault := { x := false, y := true, z := false, c := false } } };
        trips.inputs.assertedFaults = .driveY :: [.limit] ∧ trips.scan.hit.isSome = true) := by decide

/-- The part with a drive-fault report asserted. -/
def tripped (g : Gantry) : State :=
  { still g with inputs := { live.inputs with driveFault := { x := false, y := true, z := false, c := false } } }

theorem witness_HomingTakesThreeSteps :
    ((work .cycling .lift).ready ∧ (ask []).payload = [] ∧ (work .cycling .lift).gantry.state ≠ .unhomed ∧
      (work .cycling .lift).gantry.state ≠ .idle) ∧
    ((guarded .idle).ready ∧ (guarded .idle).inputs.safety = true) ∧
    (live.ready ∧ live.gantry.state = .unhomed ∧ live.inputs.safety = false ∧ live.gantry.dryRun = false ∧
      live.inputs.assertedFaults = []) ∧
    ((tripped .idle).ready ∧ (tripped .idle).fault.entry = none ∧ (tripped .idle).inputs.assertedFaults = .driveY :: []) ∧
    (still (.homing .one)).gantry.state = .homing .one ∧ (still (.homing .two)).gantry.state = .homing .two ∧
    (still (.homing .three)).gantry.state = .homing .three :=
  ⟨⟨work_ready _ _, rfl, by decide, by decide⟩, ⟨guarded_ready _, rfl⟩, ⟨live_ready, rfl, rfl, rfl, rfl⟩,
    ⟨⟨⟨rfl, rfl, rfl, rfl⟩, rfl⟩, rfl, rfl⟩, rfl, rfl, rfl⟩

/-- R138, R153, R155 and log 24: HOME with Y's drive-fault report asserted puts Z's home command and then the four stops on the
drive ports. -/
theorem test_home_with_a_fault_input : (run (.home (ask [])) (tripped .idle)).gantry.driveOut =
    [.home .z, .stop .x, .stop .y, .stop .z, .stop .c] := by decide

theorem witness_HaltStopsWithoutGivingUp :
    (still .idle).gantry.state = .idle ∧ (still .idle).ready ∧ (ask []).payload = [] ∧ (still .idle).resetHeld = false ∧
    (work .cycling .lift).gantry.state = .cycling ∧ (work .aborting .toReject).gantry.state = .aborting ∧
    live.resetHeld = false ∧ live.gantry.state = .unhomed ∧ (still (.halted .idle)).resetHeld = false ∧
    (still (.halted .idle)).gantry.state = .halted .idle :=
  ⟨rfl, still_ready _, rfl, rfl, rfl, rfl, rfl, rfl, rfl, rfl⟩

/-- The cell at work with the contact sensor asserted. -/
def touching (g : Gantry) (p : Phase) : State :=
  { work g p with inputs := { (work g p).inputs with contact := true } }

theorem witness_ResumeTakesTheWorkUpAgain :
    ((guarded (.halted .idle)).ready ∧ (ask []).payload = [] ∧ (guarded (.halted .idle)).inputs.safety = true) ∧
    (live.ready ∧ live.inputs.safety = false ∧ ∀ r, live.gantry.state ≠ .halted r) ∧
    ((still (.halted .idle)).ready ∧ (still (.halted .idle)).gantry.state = .halted .idle) ∧
    ((still (.halted .homing)).gantry.state = .halted .homing ∧ (still (.halted .homing)).gantry.dryRun = false) ∧
    (∀ p, (work (.halted .cycling) p).ready ∧ (work (.halted .cycling) p).gantry.state = .halted .cycling ∧
      (work (.halted .cycling) p).transfer = some (rec35 p) ∧ (rec35 p).phase = p ∧
      (work (.halted .cycling) p).inputs.contact = false) ∧
    ((touching (.halted .cycling) .search).ready ∧ (touching (.halted .cycling) .search).inputs.contact = true ∧
      (touching (.halted .cycling) .search).gantry.dryRun = false) ∧
    (∀ p, (work (.halted .aborting) p).gantry.state = .halted .aborting ∧
      (work (.halted .aborting) p).gantry.move = .still) ∧
    ({ rec35 .rejectLower with rejectZ := some 1180 } : Transfer).rejectZ = some 1180 :=
  ⟨⟨guarded_ready _, rfl, rfl⟩, ⟨live_ready, rfl, nofun⟩, ⟨still_ready _, rfl⟩, ⟨rfl, rfl⟩,
    fun _ => ⟨work_ready _ _, rfl, rfl, rfl, rfl⟩, ⟨⟨⟨rfl, rfl, rfl, rfl⟩, rfl⟩, rfl, rfl⟩, fun _ => ⟨rfl, rfl⟩, rfl⟩

theorem witness_AbortActsByItsTable :
    (let left : AxisSet := { x := true, y := false, z := false, c := true }
      let all : AxisSet := { x := true, y := true, z := true, c := true }
      (work .cycling .lift).gantry.dryRun = false ∧
        ({ (work .cycling .lift).gantry with move := .awaiting all } : GantryCtl).move = .awaiting all ∧
        ∀ a, left.get a = true ↔ a ∉ [Axis.y, .z] ∧ ∃ awaited, Move.awaiting all = .awaiting awaited ∧
          awaited.get a = true) ∧
    ({ GantryCtl.powerOn with dryRun := true } : GantryCtl).dryRun = true ∧
    (∀ p, (work .cycling p).ready ∧ (work .cycling p).gantry.state = .cycling ∧
      (work .cycling p).transfer = some (rec35 p) ∧ (rec35 p).phase = p) ∧
    (ask []).payload = [] ∧ live.gantry.state = .unhomed ∧ (still (.halted .idle)).gantry.state = .halted .idle ∧
    ((rec35 .grip).jobSlot = 0 ∧ (rec35 .grip).jobTag = 35 ∧ (rec35 .grip).jobTag ≠ 36) ∧
    (work (.halted .cycling) .grip).gantry.state = .halted .cycling ∧ (work .fault .grip).gantry.state = .fault :=
  ⟨⟨rfl, rfl, fun a => by cases a <;> simp [AxisSet.get]⟩, rfl, fun p => ⟨work_ready _ _, rfl, rfl, rfl⟩, rfl, rfl, rfl,
    by decide, rfl, rfl⟩

theorem witness_ContactAndGripDecideTheBoard :
    (∀ p, (work .cycling p).resetHeld = false ∧ (work .cycling p).transfer = some (rec35 p) ∧
      (work .cycling p).gantry.state = .cycling ∧ (work .cycling p).gantry.dryRun = false ∧
      (work .cycling p).inputs.holdLost = false) ∧
    ((rec35 .search).phase = .search ∧
      (rec35 .search).window = some { start := 3020, limit := 2760, tolerance := 60 } ∧
      2880 ≤ (rec35 .search).ze + 60 ∧ (rec35 .search).ze ≤ 2880 + 60 ∧ (rec35 .search).ze + 60 < 2881 ∧
      2760 ≤ (rec35 .search).ze + 60 ∧ (rec35 .search).ze ≤ 2760 + 60 ∧ 2759 + 60 < (rec35 .search).ze) ∧
    ((rec35 .lift).phase ≠ .search ∧ (rec35 .lift).phase ≠ .grip) ∧
    ({ work .cycling .grip with gripCounter := .running 0 } : State).gripCounter = .running 0 ∧
    (let s : State := { work .cycling .grip with inputs := { (work .cycling .grip).inputs with holdLost := true } };
      s.inputs.holdLost = true ∧ s.fault.entry = none ∧ s.gantry.dryRun = false) ∧
    ((rec35 .grip).attempts < 2 ∧ 2 ≤ ({ rec35 .grip with attempts := 2 } : Transfer).attempts) :=
  ⟨fun _ => ⟨rfl, rfl, rfl, rfl, rfl⟩, by decide, by decide, rfl, ⟨rfl, rfl, rfl⟩, by decide⟩

theorem witness_ReportsCompleteMoves :
    let xy : AxisSet := { x := true, y := true, z := false, c := false }
    let s : State := { work .cycling .toStack with gantry := { (work .cycling .toStack).gantry with move := .awaiting xy } }
    let z : AxisSet := { x := false, y := false, z := true, c := false }
    let d : State := { live with gantry := { GantryCtl.powerOn with
      dryRun := true, head := some { x := 0, y := 0, z := 0, c := 0 }, move := .modelled 0 [] } }
    s.resetHeld = false ∧ s.gantry.dryRun = false ∧ s.gantry.state ≠ .homing .one ∧ s.gantry.state ≠ .homing .two ∧
      s.gantry.move = .awaiting xy ∧ xy.get .x = true ∧ xy.get .y = true ∧ (∀ o, o ≠ Axis.z → z.get o = false) ∧
      z.get .z = true ∧ d.gantry.move = .modelled 0 [] ∧ d.gantry.head = some { x := 0, y := 0, z := 0, c := 0 } ∧
      (∀ n ts, s.gantry.move ≠ .modelled n ts) :=
  ⟨rfl, rfl, by decide, by decide, rfl, rfl, rfl, fun o h => by cases o <;> first | rfl | exact absurd rfl h, rfl, rfl, rfl,
    nofun⟩

theorem witness_CompletedMovesAdvanceThePhase :
    (∀ p, (work .cycling p).transfer = some (rec35 p) ∧ (work .cycling p).gantry.state = .cycling ∧ (rec35 p).phase = p ∧
      (rec35 p).leg = .first ∧ (work .cycling p).inputs.contact = false ∧ (work .cycling p).gantry.dryRun = false) ∧
    ({ rec35 .search with leg := .second } : Transfer).leg = .second ∧
    ((touching .cycling .toStack).inputs.contact = true ∧ (touching .cycling .toStack).gantry.dryRun = false) ∧
    ({ GantryCtl.powerOn with state := .cycling, dryRun := true } : GantryCtl).dryRun = true ∧
    (work .aborting .toReject).gantry.state = .aborting ∧
    (∀ j, (work .cycling .rise).recordJob = some j → j.cancelPending = false) ∧
    (({ work .cycling .rise with store := { (work .cycling .rise).store with
      jobs := { start := 0, entries := [{ job35 with cancelPending := true }] } } } : State).recordJob.map
        Job.cancelPending) = some true :=
  ⟨fun _ => ⟨rfl, rfl, rfl, rfl, rfl, rfl⟩, rfl, ⟨rfl, rfl⟩, rfl, rfl, fun j h => by
    have e : (work .cycling .rise).recordJob = some job35 := by decide
    rw [e] at h
    cases h
    rfl, by decide⟩

theorem witness_ReleaseCountsTheBoard :
    let s : State := { work .cycling .release with releaseCounter := .running 0 }
    let r : State := { work .aborting .rejectRelease with releaseCounter := .running 0 }
    s.resetHeld = false ∧ s.transfer = some (rec35 .release) ∧ s.gantry.state = .cycling ∧
      s.releaseCounter = .running 0 ∧ s.recordJob = some job35 ∧ (s.lane .l2).state = .filling book35 ∧
      (lane2In .idle true false).transfer = none ∧ r.gantry.state = .aborting ∧
      r.transfer = some (rec35 .rejectRelease) ∧ r.releaseCounter = .running 0 ∧ s.store.wf = true ∧
      live.recordJob = none := by decide

theorem witness_FaultsAreRecorded :
    let held := work .cycling .lift
    let again := run (.driveFaultAsserted .y true) held
    (held.resetHeld = false ∧ held.gantry.dryRun = false ∧ held.gantry.state = .cycling ∧ held.fault.entry = none ∧
      held.holding = true ∧ held.transfer = some (rec35 .lift)) ∧
    (again.fault.entry.isSome = true ∧ again.gantry.state = .fault ∧ again.resetHeld = false) ∧
    live.gantry.state = .unhomed := by decide

theorem witness_ReleaseHeldLetsTheBoardGo :
    (live.ready ∧ (ask []).payload = [] ∧ live.gantry.state = .unhomed) ∧
    ((still (.halted .idle)).ready ∧ (still (.halted .idle)).gantry.state = .halted .idle ∧
      (still (.halted .idle)).transfer = none) ∧
    ((work .fault .lift).ready ∧ (work .fault .lift).transfer = some (rec35 .lift) ∧ (rec35 .lift).held = true ∧
      (work .fault .lift).gantry.state = .fault) ∧
    ((work (.halted .cycling) .lift).ready ∧ (work (.halted .cycling) .lift).gantry.state = .halted .cycling) :=
  ⟨⟨live_ready, rfl, rfl⟩, ⟨still_ready _, rfl, rfl⟩, ⟨work_ready _ _, rfl, rfl, rfl⟩, work_ready _ _, rfl⟩

theorem witness_ClearFaultSettlesTheRecord :
    ((guarded .fault).ready ∧ (ask []).payload = [] ∧ (guarded .fault).inputs.safety = true) ∧
    (live.ready ∧ live.inputs.safety = false ∧ live.gantry.state ≠ .fault) ∧
    ((work .fault .lift).ready ∧ (work .fault .lift).transfer = some (rec35 .lift) ∧ (rec35 .lift).held = true) ∧
    ((still .fault).ready ∧ (still .fault).gantry.state = .fault ∧ (still .fault).transfer = none) ∧
    ((work .fault .release).transfer = some (rec35 .release) ∧ (rec35 .release).held = false ∧
      (work .fault .release).recordJob = some job35 ∧ job35.inFlight = false ∧ job35.cancelPending = false) :=
  ⟨⟨guarded_ready _, rfl, rfl⟩, ⟨live_ready, rfl, by decide⟩, ⟨work_ready _ _, rfl, rfl⟩, ⟨still_ready _, rfl, rfl⟩, rfl,
    rfl, by decide, rfl, rfl⟩

theorem witness_SetModesClampsAndStores :
    (live.ready ∧ (ask (modesPayload 17 2)).payload.length = 21 ∧ 1 < u8 (ask (modesPayload 17 2)).payload 4) ∧
    (u8 (ask (modesPayload 17 1)).payload 0 = Rounding.towardDatum.code ∧
      u8 (ask (modesPayload 17 1)).payload 4 = (if true then 1 else 0)) ∧
    (true ≠ (work .cycling .lift).gantry.dryRun ∧ (work .cycling .lift).gantry.state = .cycling) ∧
    (true ≠ live.gantry.dryRun ∧ live.gantry.state = .unhomed ∧ live.holding = false ∧
      ∀ l, (live.lane l).state = .parked ∨ (live.lane l).state = .idle) :=
  ⟨⟨live_ready, by decide, by decide⟩, by decide, by decide, by decide, rfl, rfl, fun l => by cases l <;> decide⟩

theorem witness_SetTravelChecksAndStores :
    let t : Travel := { Travel.powerOn with ztravel := 10400, xr := 500, yr := 500, zr := 1000 }
    ((work .cycling .lift).ready ∧ (ask (travelPayload [0xA0, 0x28])).payload.length = 20 ∧
      (work .cycling .lift).gantry.state = .cycling) ∧
    ((still .idle).ready ∧ (still .idle).gantry.state = .idle) ∧
    (t.xMin < t.xMax ∧ t.xMax ≤ 65000 ∧ t.yMin < t.yMax ∧ t.yMax ≤ 30000 ∧ t.zMin < t.zMax ∧ t.zMax ≤ 25000 ∧
      Between t.zMin t.zMax t.ztravel ∧ Between t.xMin t.xMax t.xr ∧ Between t.yMin t.yMax t.yr ∧
      Between t.zMin t.zMax t.zr) ∧
    ((cell lane2).ready ∧ ((cell lane2).lane .l2).configured = true ∧
      10399 < ((cell lane2).lane .l2).cfg.zt + ((cell lane2).lane .l2).cfg.hmax + 1000) ∧
    ((∀ k, ((cell lane2).stack k).present = true →
        ((cell lane2).stack k).zf + ((cell lane2).stack k).count *
          ((cell lane2).typeEntry ((cell lane2).stack k).type).thk + 1000 ≤ t.ztravel) ∧
      (∀ l, ((cell lane2).lane l).configured = true →
        ((cell lane2).lane l).cfg.zt + ((cell lane2).lane l).cfg.hmax + 1000 ≤ t.ztravel) ∧
      t.zr + 1000 ≤ t.ztravel) := by
  unfold Between
  exact ⟨⟨work_ready _ _, by decide, rfl⟩, ⟨still_ready _, rfl⟩, by decide, ⟨cell_ready _, by decide⟩,
    fun k => by cases k <;> decide, fun l => by cases l <;> decide, by decide⟩

theorem witness_MotionWaitsForTheSafetyLine :
    (guarded .cycling).inputs.safety = true ∧ (guarded .cycling).gantry.dryRun = false ∧
      (still .cycling).inputs.safety = false ∧ (still .cycling).gantry.state = .cycling ∧
      ({ live with gantry := { live.gantry with dryRun := true } } : State).gantry.dryRun = true ∧
      DriveCommand.target (goTo .z 20000) ∈ (run (.abort (ask [])) (work .cycling .lift)).gantry.driveOut ∧
      (DriveCommand.target (goTo .z 20000)).isMotion = true := by decide

/-- A carry with the valves of its zones open. -/
def carrying : State :=
  { work .cycling .lift with valves := 0x18 }

theorem witness_StepKeepsTheStoreExact : carrying.StoreExact ∧ ∃ t, step carrying = .next t :=
  ⟨⟨by decide, by decide, by decide⟩, _, rfl⟩

theorem witness_StepKeepsTheListsExact : carrying.ListsExact ∧ ∃ t, step carrying = .next t :=
  ⟨⟨fun l => by cases l <;> decide,
    fun l => by
      cases l <;> simp [carrying, work, cell, live, State.reset, State.lane, PerLane.get, Lane.powerOn],
    by decide, by decide, fun l => by cases l <;> decide, fun l => by cases l <;> decide⟩, _, rfl⟩

theorem witness_StepKeepsTheRecordExact : carrying.RecordExact ∧ ∃ t, step carrying = .next t :=
  ⟨⟨fun _ => ⟨rec35 .lift, rfl, rfl⟩, fun h => by (rcases h with h | h <;> cases h), fun _ => .inr (.inl rfl),
    fun _ h _ => by (cases h; rfl), fun _ => ⟨rec35 .lift, rfl, rfl, .inl rfl⟩, nofun⟩, _, rfl⟩

theorem witness_StepKeepsRangesFaultAndLink :
    carrying.InRanges ∧ carrying.FaultExact ∧ carrying.LinkExact ∧ ∃ t, step carrying = .next t := by
  have e : carrying.fault.entry = none := rfl
  have m : carrying.modes = .powerOn := rfl
  have v : carrying.travel = .powerOn := rfl
  refine ⟨⟨m ▸ ?_, v ▸ ?_, by decide, fun x h => ?_, by decide⟩, ⟨fun h => ?_, fun h => ?_⟩, ⟨fun h => ?_, fun h => ?_⟩, _,
    rfl⟩
  · constructor <;> exact ⟨by decide, by decide⟩
  · exact ⟨by decide, by decide, by decide, ⟨by decide, by decide⟩, ⟨⟨by decide, by decide⟩, ⟨by decide, by decide⟩, by decide,
      by decide⟩, by decide⟩
  · rw [e] at h
    cases h
  · cases h
  · rw [e] at h
    cases h
  · cases h
  · cases h

end Sys2Proof.Tests
end

section
/-! The Panel Store through every step (R1, R21, R22, R36). First the operations that leave the store alone, then those on the job
list, then every command. -/

namespace Sys2Proof.Machine

/-! ## What leaves the store alone -/

section StoreUnchanged

variable (s : State)

@[simp] theorem State.issue_store (ts : List Target) : (s.issue ts).store = s.store := by
  obtain ⟨g, hg, -⟩ := issue_frame s ts
  rw [hg]

@[simp] theorem State.issueHome_store (axes : List Axis) : (s.issueHome axes).store = s.store := by
  obtain ⟨g, hg, -⟩ := issueHome_frame s axes
  rw [hg]

@[simp] theorem State.stop_store (axes : List Axis) : (s.stop axes).store = s.store := by
  obtain ⟨g, hg, -⟩ := stop_frame s axes
  rw [hg]

@[simp] theorem State.stopAll_store : s.stopAll.store = s.store := by
  obtain ⟨g, hg, -⟩ := stopAll_frame s
  rw [hg]

@[simp] theorem State.startGrip_store : s.startGrip.store = s.store := by
  unfold State.startGrip
  split <;> rfl

@[simp] theorem State.startRelease_store : s.startRelease.store = s.store := rfl

@[simp] theorem State.closeBook_store (l : LaneNo) : (s.closeBook l).store = s.store := by
  obtain ⟨v, q, hv⟩ := closeBook_frame s l
  rw [hv]

@[simp] theorem State.place_store (t : Transfer) : (s.place t).store = s.store := by
  obtain ⟨v, q, o, hv⟩ := place_frame s t
  rw [hv]

@[simp] theorem State.closeTest_store (l : LaneNo) : (s.closeTest l).store = s.store := by
  obtain ⟨v, q, hv⟩ := closeTest_frame s l
  rw [hv]

@[simp] theorem State.takeOver_store (l : LaneNo) : (s.takeOver l).1.store = s.store := by
  obtain ⟨v, q, hv⟩ := takeOver_frame s l
  rw [hv]

@[simp] theorem State.firstFault_store (k : FaultKind) (f : FaultState) : (s.firstFault k f).store = s.store := by
  simp [State.firstFault]

@[simp] theorem State.furtherFault_store (e : FaultEntry) : (s.furtherFault e).store = s.store := by
  simp [State.furtherFault]

@[simp] theorem State.halt_store : s.halt.store = s.store := by
  unfold State.halt
  split <;> simp

@[simp] theorem State.enterRetreat_store : s.enterRetreat.store = s.store := by
  simp [State.enterRetreat]

@[simp] theorem State.markSuspect_store (k : StackNo) : (s.markSuspect k).store = s.store := rfl

@[simp] theorem State.abandon_store : s.abandon.store = s.store := by
  unfold State.abandon
  split <;> simp

@[simp] theorem State.abandonFor_store (slot tag : Nat) : (s.abandonFor slot tag).store = s.store := by
  unfold State.abandonFor
  split <;> simp

@[simp] theorem State.enterGrip_store (t : Transfer) : (s.enterGrip t).store = s.store := by
  simp [State.enterGrip]

@[simp] theorem State.contactEvent_store (z : Nat) : (s.contactEvent z).store = s.store := by
  unfold State.contactEvent
  split
  · rfl
  · dsimp only
    split <;> simp

@[simp] theorem State.issueSearch_store (z : Nat) : (s.issueSearch z).store = s.store := by
  unfold State.issueSearch
  split
  · rfl
  · dsimp only
    split <;> simp

@[simp] theorem State.enterSearch_store : s.enterSearch.store = s.store := by
  simp [State.enterSearch]

@[simp] theorem State.issueDescent_store (t : Transfer) : (s.issueDescent t).store = s.store := by
  simp [State.issueDescent]

@[simp] theorem State.endDescent_store (t : Transfer) : (s.endDescent t).store = s.store := by
  unfold State.endDescent
  repeat' split
  all_goals simp

@[simp] theorem State.letGo_store : s.letGo.store = s.store := rfl

@[simp] theorem State.enterRelease_store : s.enterRelease.store = s.store := by
  simp [State.enterRelease]

@[simp] theorem State.issueRise_store : s.issueRise.store = s.store := by
  simp [State.issueRise]

@[simp] theorem State.issueToStack_store (t : Transfer) : (s.issueToStack t).store = s.store := by
  simp [State.issueToStack]

@[simp] theorem State.issueToLane_store (t : Transfer) : (s.issueToLane t).store = s.store := by
  simp [State.issueToLane]

@[simp] theorem State.issueRejectRise_store : s.issueRejectRise.store = s.store := by
  simp [State.issueRejectRise]

@[simp] theorem State.enterAborting_store (t : Transfer) : (s.enterAborting t).store = s.store := by
  simp [State.enterAborting]

@[simp] theorem State.issueTraverse_store : s.issueTraverse.store = s.store := by
  simp [State.issueTraverse]

@[simp] theorem State.issueRejectLower_store (t : Transfer) : (s.issueRejectLower t).store = s.store := by
  simp [State.issueRejectLower]

@[simp] theorem State.enterRejectRelease_store : s.enterRejectRelease.store = s.store := by
  simp [State.enterRejectRelease]

@[simp] theorem State.homeZ_store : s.homeZ.store = s.store := by
  simp [State.homeZ]

@[simp] theorem State.homeRest_store : s.homeRest.store = s.store := by
  simp [State.homeRest]

@[simp] theorem State.homeRise_store : s.homeRise.store = s.store := by
  simp [State.homeRise]

@[simp] theorem State.homed_store : s.homed.store = s.store := rfl

@[simp] theorem State.resumeWork_store (r : Remembered) (z : Nat) : (s.resumeWork r z).store = s.store := by
  have phase : ∀ (u : State) (t : Transfer), (u.resumePhase t z).store = u.store := by
    intro u t
    unfold State.resumePhase
    split <;> simp
  have record : ∀ u : State, (u.resumeRecord z).store = u.store := by
    intro u
    unfold State.resumeRecord
    split
    · rfl
    · exact phase u _
  cases r <;> simp [State.resumeWork, record]

@[simp] theorem State.setDryRun_store (b : Bool) : (s.setDryRun b).store = s.store := by
  unfold State.setDryRun State.enterDryRun State.leaveDryRun
  dsimp only
  repeat' split
  all_goals rfl

@[simp] theorem State.travelChanged_store (z : Nat) : (s.travelChanged z).store = s.store := by
  unfold State.travelChanged
  repeat' split
  all_goals rfl

@[simp] theorem State.placeReply_store (f : Frame) (r : Result) (p : List Byte) :
    (s.placeReply f r p).store = s.store := by
  unfold State.placeReply
  dsimp only
  split <;> rfl

@[simp] theorem State.dropFrame_store (e : LinkError) : (s.dropFrame e).store = s.store := rfl

@[simp] theorem State.discard_store (e : LinkError) : (s.discard e).store = s.store := rfl

@[simp] theorem State.tick_store : s.tick.store = s.store := by
  unfold State.tick
  split <;> rfl

end StoreUnchanged

/-! ## The job list -/

/-- The form of the store, the tags and the head speak of the store alone. -/
theorem State.StoreExact.of_store {s u : State} (h : s.StoreExact) (e : u.store = s.store) : u.StoreExact :=
  ⟨e ▸ h.form, e ▸ h.tags, e ▸ h.head⟩

/-- A change of an entry that keeps its tag and whether it is live. -/
structure Job.KeepsLife (f : Job → Job) : Prop where
  tag : ∀ j, (f j).tag = j.tag
  live : ∀ j, (f j).live = j.live

theorem Job.keepsLife_gripped : Job.KeepsLife Job.gripped where
  tag _ := rfl
  live j := by cases hs : j.state <;> simp [Job.gripped, Job.live, hs]

theorem Job.keepsLife_lose : Job.KeepsLife Job.lose := ⟨fun _ => rfl, fun _ => rfl⟩

theorem Job.keepsLife_reject : Job.KeepsLife Job.reject := ⟨fun _ => rfl, fun _ => rfl⟩

theorem Job.keepsLife_counted (c : Bool) : Job.KeepsLife fun j => j.counted c := ⟨fun _ => rfl, fun _ => rfl⟩

theorem Job.keepsLife_amend (a : Amendment) : Job.KeepsLife fun j => j.amend a := ⟨fun _ => rfl, fun _ => rfl⟩

theorem Job.keepsLife_cancelPending : Job.KeepsLife fun j => { j with cancelPending := true } :=
  ⟨fun _ => rfl, fun _ => rfl⟩

/-- A change of one entry that keeps its tag keeps the list of tags. -/
theorem map_tag_modify (es : List Job) (k : Nat) {f : Job → Job} (hf : ∀ j, (f j).tag = j.tag) :
    (es.modify k f).map Job.tag = es.map Job.tag := by
  refine List.ext_getElem? fun i => ?_
  simp only [List.getElem?_map, List.getElem?_modify]
  cases es[i]? with
  | none => rfl
  | some j =>
    by_cases hk : k = i
    · simp [hk, hf]
    · simp [hk]

/-- A change of one entry that keeps its life keeps a live head. -/
theorem head_live_modify {es : List Job} (h : ∀ j ∈ es.head?, j.live = true) (k : Nat) {f : Job → Job}
    (hf : ∀ j, (f j).live = j.live) : ∀ j ∈ (es.modify k f).head?, j.live = true := by
  cases es with
  | nil => simp [List.modify_nil]
  | cons e r =>
    have he : e.live = true := h e rfl
    cases k with
    | zero => simp [hf, he]
    | succ k => simp [he]

theorem State.StoreExact.modifyJob {s : State} (h : s.StoreExact) (slot : Nat) {f : Job → Job}
    (hf : Job.KeepsLife f) : (s.modifyJob slot f).StoreExact := by
  have form := wf_modifyJob h.form slot f
  unfold State.modifyJob at form ⊢
  split
  · exact h
  · next k hk =>
    rw [hk] at form
    refine ⟨form, ?_, ?_⟩
    · rw [State.setEntries_store, map_tag_modify _ _ hf.tag]
      exact h.tags
    · exact head_live_modify h.head k hf.live

/-- Retiring the head makes it live, whatever the head was (R36). -/
theorem retire_storeExact {s : State} (form : s.store.wf = true) (tags : (s.store.jobs.entries.map Job.tag).Nodup) :
    s.retire.StoreExact where
  form := wf_retire form
  tags := tags.sublist ((List.drop_sublist _ _).map _)
  head := head_after_drop _

theorem modifyJob_tags (s : State) (slot : Nat) {f : Job → Job} (hf : ∀ j, (f j).tag = j.tag) :
    (s.modifyJob slot f).store.jobs.entries.map Job.tag = s.store.jobs.entries.map Job.tag := by
  unfold State.modifyJob
  split
  · rfl
  · exact map_tag_modify _ _ hf

/-- A job that finishes leaves its tag to its entry, and a finished head retires (R19, R36). -/
theorem State.StoreExact.finishJob {s : State} (h : s.StoreExact) (slot : Nat) (st : JobState) (r : Option Reason) :
    (s.finishJob slot st r).StoreExact := by
  unfold State.finishJob
  split
  · exact h
  · refine retire_storeExact ?_ ?_
    · rw [pushNotice_store]
      exact wf_modifyJob h.form slot _
    · rw [pushNotice_store, modifyJob_tags s slot (f := fun j => j.finish st r) fun _ => rfl]
      exact h.tags

theorem State.StoreExact.onRecordJob {s : State} (h : s.StoreExact) {f : Job → Job} (hf : Job.KeepsLife f) :
    (s.onRecordJob f).StoreExact := by
  unfold State.onRecordJob
  split
  · exact h.modifyJob _ hf
  · exact h

/-- A tag that no entry carries is not in the list of tags. -/
theorem tag_fresh {s : State} {tag : Nat} (h : s.findTag tag = none) : tag ∉ s.store.jobs.entries.map Job.tag := by
  intro hm
  rw [← locateFrom_jobs s.jobSlots s.store.jobs.start 0 s.store.jobs.entries, List.map_map] at hm
  obtain ⟨e, he, ht⟩ := List.mem_map.1 hm
  exact List.find?_eq_none.1 h e he (by simpa using ht)

/-- A live entry with a fresh tag joins a list that is not full (R23, R24). -/
theorem State.StoreExact.append {s : State} (h : s.StoreExact) {j : Job} (hj : j.live = true)
    (ht : s.findTag j.tag = none) (hn : s.entryCount ≠ s.jobSlots) :
    (s.setEntries (s.store.jobs.entries ++ [j])).StoreExact where
  form := by
    have hl := ((wf_iff _).1 h.form).2.2.2.2
    refine wf_entries h.form ?_
    rw [List.length_append, List.length_singleton]
    exact Nat.lt_of_le_of_ne hl hn
  tags := by
    rw [State.setEntries_store, List.map_append]
    exact List.nodup_append'.2 ⟨h.tags, List.nodup_singleton _, by simpa using tag_fresh ht⟩
  head := by
    show ∀ i ∈ (s.store.jobs.entries ++ [j]).head?, i.live = true
    have head := h.head
    cases hes : s.store.jobs.entries with
    | nil => simpa using hj
    | cons e r =>
      rw [hes] at head
      simpa using head

/-- A list without entries has its tags apart and no finished head. -/
theorem storeExact_of_noEntries {s : State} (form : s.store.wf = true) (he : s.store.jobs.entries = []) :
    s.StoreExact :=
  ⟨form, by simp [he], by simp [he]⟩

/-- A change of the store outside its job list keeps tags and head. -/
theorem State.StoreExact.of_jobs {s u : State} (h : s.StoreExact) (form : u.store.wf = true)
    (e : u.store.jobs = s.store.jobs) : u.StoreExact :=
  ⟨form, e ▸ h.tags, e ▸ h.head⟩

/-! ## Faults and the end of a transfer -/

theorem State.StoreExact.boardLost {s : State} (h : s.StoreExact) : s.boardLost.StoreExact :=
  (h.onRecordJob Job.keepsLife_lose).of_store (by simp [State.boardLost])

theorem State.StoreExact.takeFault {s : State} (h : s.StoreExact) (k : FaultKind) : (s.takeFault k).StoreExact := by
  have drop : ∀ r : State, r.StoreExact → (if k = .drop then r.boardLost else r).StoreExact := by
    intro r hr
    split
    · exact hr.boardLost
    · exact hr
  refine drop _ ?_
  split
  · exact h.of_store (by simp)
  · exact h
  · exact h.of_store (by simp)

theorem State.StoreExact.inputFault {s : State} (h : s.StoreExact) (k : FaultKind) : (s.inputFault k).StoreExact := by
  unfold State.inputFault
  split
  · exact h.takeFault k
  · exact h

theorem State.StoreExact.holdLost {s : State} (h : s.StoreExact) : s.holdLost.StoreExact := by
  unfold State.holdLost
  split
  · exact h.takeFault _
  · exact h

theorem State.StoreExact.faultsFound {s : State} (h : s.StoreExact) : s.faultsFound.StoreExact :=
  List.foldlRecOn _ _ h fun _ hu k _ => hu.inputFault k

theorem State.StoreExact.enterLift {s : State} (h : s.StoreExact) : s.enterLift.StoreExact := by
  have issued : ((s.setPhase .lift).issue [goTo .z s.travel.ztravel]).StoreExact := h.of_store (by simp)
  unfold State.enterLift
  dsimp only
  split
  · exact issued.holdLost
  · exact issued

theorem State.StoreExact.gripExpiry {s : State} (h : s.StoreExact) (t : Transfer) (g : Bool) :
    (s.gripExpiry t g).StoreExact := by
  have stack : (s.setStack t.stack (s.stack t.stack).gripped).StoreExact := h.of_store rfl
  have gripped := stack.onRecordJob Job.keepsLife_gripped
  unfold State.gripExpiry
  split
  · exact State.StoreExact.enterLift (gripped.of_store rfl)
  · split <;> exact h.of_store (by simp)

theorem State.StoreExact.countPlaced {s : State} (h : s.StoreExact) (t : Transfer) : (s.countPlaced t).StoreExact := by
  have counted := h.modifyJob t.jobSlot (Job.keepsLife_counted t.clampedAny)
  unfold State.countPlaced
  split
  · exact h
  · dsimp only
    split
    · exact counted.finishJob _ _ _
    · exact counted

theorem State.StoreExact.releaseExpiry {s : State} (h : s.StoreExact) (t : Transfer) :
    (s.releaseExpiry t).StoreExact := by
  have stopped : ({ s with blowOff := false, releaseCounter := .stopped } : State).StoreExact := h.of_store rfl
  exact (stopped.countPlaced t).of_store (by simp [State.releaseExpiry])

theorem State.StoreExact.rejectExpiry {s : State} (h : s.StoreExact) : s.rejectExpiry.StoreExact := by
  have stopped : ({ s with releaseCounter := .stopped } : State).StoreExact := h.of_store rfl
  exact (stopped.onRecordJob Job.keepsLife_reject).of_store (by simp [State.rejectExpiry])

theorem State.StoreExact.closeRecord {s : State} (h : s.StoreExact) (t : Transfer) : (s.closeRecord t).StoreExact := by
  have resolved : (s.resolveCancel t).StoreExact := by
    unfold State.resolveCancel
    split
    · exact h
    · split
      · exact h.finishJob _ _ _
      · exact h
  exact resolved.of_store (by simp [State.closeRecord])

theorem State.StoreExact.endTransfer {s : State} (h : s.StoreExact) (t : Transfer) : (s.endTransfer t).StoreExact :=
  (h.closeRecord t).of_store rfl

/-! ## Selection -/

theorem State.StoreExact.select {s : State} (h : s.StoreExact) (x : Hit) : (s.select x).StoreExact := by
  unfold State.select
  exact State.StoreExact.faultsFound (h.of_store (by simp))

theorem Scan.test_storeExact {a : Scan} (h : a.state.StoreExact) (l : LaneNo) (slot : Nat) :
    (a.test l slot).state.StoreExact := by
  unfold Scan.test
  split
  · exact h
  · exact h
  · split
    · split
      · exact h
      · exact h
      · exact h.finishJob _ _ _
    · exact h

theorem State.StoreExact.scan {s : State} (h : s.StoreExact) : s.scan.state.StoreExact :=
  List.foldlRecOn (motive := fun a : Scan => a.state.StoreExact) _ _ h fun _ ha l _ =>
    List.foldlRecOn (motive := fun a : Scan => a.state.StoreExact) _ _ ha fun _ hb slot _ =>
      Scan.test_storeExact hb l slot

theorem State.StoreExact.attempts {s : State} (h : s.StoreExact) (fuel : Nat) :
    (State.attempts fuel s).StoreExact := by
  induction fuel generalizing s with
  | zero => exact h
  | succ fuel ih =>
    simp only [State.attempts]
    split
    · exact h.scan.select _
    · split
      · exact ih h.scan
      · exact h.scan

theorem State.StoreExact.reevaluate {s : State} (h : s.StoreExact) : s.reevaluate.StoreExact := by
  unfold State.reevaluate
  split
  · exact h.attempts _
  · exact h

/-! ## The completion of a move -/

theorem State.StoreExact.completePhase {s : State} (h : s.StoreExact) (t : Transfer) :
    (s.completePhase t).StoreExact := by
  unfold State.completePhase
  split
  case h_7 | h_8 => exact (h.endTransfer t).reevaluate
  all_goals exact h.of_store (by simp)

theorem State.StoreExact.completePutDown {s : State} (h : s.StoreExact) (t : Transfer) :
    (s.completePutDown t).StoreExact := by
  unfold State.completePutDown
  split
  case h_4 => exact (h.endTransfer t).reevaluate
  all_goals exact h.of_store (by simp)

theorem State.StoreExact.completeMove {s : State} (h : s.StoreExact) : s.completeMove.StoreExact := by
  have still : (s.setMove .still).StoreExact := h.of_store rfl
  unfold State.completeMove
  dsimp only
  split
  case h_3 => exact State.StoreExact.reevaluate (h.of_store (by simp))
  case h_4 => exact still.completePhase _
  case h_5 => exact still.completePutDown _
  all_goals exact h.of_store (by simp)

theorem State.StoreExact.axisReported {s : State} (h : s.StoreExact) (a : Axis) : (s.axisReported a).StoreExact := by
  unfold State.axisReported
  split
  · split
    · split
      · exact h.completeMove
      · exact h.of_store rfl
    · exact h
  · exact h
  · exact h

/-! ## The answers of the blocks -/

/-! ### Answers that change the store -/

theorem State.StoreExact.answerDefineType {s : State} (h : s.StoreExact) (f : Frame) :
    (answerDefineType f s).state.StoreExact := by
  unfold Machine.answerDefineType
  dsimp only
  split
  · exact h
  · next hn =>
    repeat' split
    · exact h
    · exact h
    · exact h
    · exact h.of_jobs (wf_insertType h.form (Nat.not_le.1 hn) _) rfl

theorem State.StoreExact.answerDropType {s : State} (h : s.StoreExact) (f : Frame) :
    (answerDropType f s).state.StoreExact := by
  unfold Machine.answerDropType
  dsimp only
  repeat' split
  · exact h
  · exact h
  · exact h
  · exact h.of_jobs (wf_eraseType h.form _) rfl

theorem State.StoreExact.setTypeCursor {s : State} (h : s.StoreExact) {n : Nat} (hn : n < s.typeSlots) :
    (s.setTypeCursor n).StoreExact :=
  h.of_jobs (wf_typeCursor h.form hn) rfl

theorem State.StoreExact.setListCursor {s : State} (h : s.StoreExact) {n : Nat} (hn : n < s.jobSlots) :
    (s.setListCursor n).StoreExact :=
  h.of_jobs (wf_listCursor h.form hn) rfl

theorem State.StoreExact.answerSetTypeCursor {s : State} (h : s.StoreExact) (f : Frame) :
    (answerSetTypeCursor f s).state.StoreExact := by
  unfold Machine.answerSetTypeCursor
  dsimp only
  split
  · next hn => exact h.setTypeCursor hn
  · exact h

theorem State.StoreExact.answerReadTypes {s : State} (h : s.StoreExact) (f : Frame) :
    (answerReadTypes f s).state.StoreExact :=
  h.setTypeCursor (Nat.mod_lt _ (typeSlots_pos _))

theorem State.StoreExact.answerSetListCursor {s : State} (h : s.StoreExact) (f : Frame) :
    (answerSetListCursor f s).state.StoreExact := by
  unfold Machine.answerSetListCursor
  dsimp only
  split
  · exact h.setListCursor ((wf_iff _).1 h.form).2.2.2.1
  · split
    · next hn => exact h.setListCursor hn
    · exact h

theorem State.StoreExact.answerListJobs {s : State} (h : s.StoreExact) (f : Frame) :
    (answerListJobs f s).state.StoreExact :=
  h.setListCursor (Nat.mod_lt _ (jobSlots_pos _))

/-- A job as ENQUEUE JOB asks for it is QUEUED (R24). -/
theorem newJob_live {p : List Byte} {j : Job} (h : newJob p = some j) : j.live = true := by
  unfold newJob at h
  split at h
  · split at h
    · cases h
      rfl
    · cases h
  · cases h

theorem State.StoreExact.answerEnqueueJob {s : State} (h : s.StoreExact) (f : Frame) :
    (answerEnqueueJob f s).state.StoreExact := by
  unfold Machine.answerEnqueueJob
  split
  · exact h
  · next j hj =>
    split
    · exact h
    · split
      · exact h
      · next ht =>
        split
        · exact h
        · next hn =>
          split
          · exact h
          · exact h.append (newJob_live hj) (by simpa using ht) hn

theorem State.StoreExact.amended {s : State} (h : s.StoreExact) (e : Located) (a : Amendment) :
    (s.amended e a).StoreExact := by
  have changed := h.modifyJob e.slot (Job.keepsLife_amend a)
  unfold State.amended
  dsimp only
  split
  · exact State.StoreExact.finishJob (changed.of_store (by simp)) _ _ _
  · exact changed

theorem State.StoreExact.answerAmendJob {s : State} (h : s.StoreExact) (f : Frame) :
    (answerAmendJob f s).state.StoreExact := by
  unfold Machine.answerAmendJob
  repeat' split
  case h_2.isFalse.isFalse.isFalse.isFalse => exact h.amended _ _
  all_goals exact h

theorem State.StoreExact.answerCancelJob {s : State} (h : s.StoreExact) (f : Frame) :
    (answerCancelJob f s).state.StoreExact := by
  unfold Machine.answerCancelJob
  repeat' split
  · exact h
  · exact h
  · exact h
  · exact h.modifyJob _ Job.keepsLife_cancelPending
  · exact State.StoreExact.finishJob (h.of_store (by simp)) _ _ _

theorem State.StoreExact.answerHome {s : State} (h : s.StoreExact) (f : Frame) :
    (answerHome f s).state.StoreExact := by
  unfold Machine.answerHome
  repeat' split
  · exact h
  · exact State.StoreExact.faultsFound (h.of_store (by simp))
  · exact h

theorem State.StoreExact.answerReleaseHeld {s : State} (h : s.StoreExact) (f : Frame) :
    (answerReleaseHeld f s).state.StoreExact := by
  unfold Machine.answerReleaseHeld
  repeat' split
  case h_1.isTrue => exact h.boardLost
  case h_2.isTrue => exact h.boardLost.of_store rfl
  all_goals exact h

theorem State.StoreExact.settleRecord {s : State} (h : s.StoreExact) : s.settleRecord.StoreExact := by
  have inFlight : s.settleInFlight.StoreExact := by
    unfold State.settleInFlight
    split
    · exact h
    · split
      · exact h.onRecordJob Job.keepsLife_lose
      · exact h
  unfold State.settleRecord
  split
  · exact h
  · exact inFlight.closeRecord _

theorem State.StoreExact.answerClearFault {s : State} (h : s.StoreExact) (f : Frame) :
    (answerClearFault f s).state.StoreExact := by
  unfold Machine.answerClearFault
  repeat' split
  · exact h
  · exact h
  · exact h
  · exact h.settleRecord.of_store rfl

/-- An accepted RESTART leaves the list empty and its pointers as they are (R184). -/
theorem State.StoreExact.answerRestart {s : State} (h : s.StoreExact) (f : Frame) :
    (answerRestart f s).state.StoreExact := by
  have emptied : (s.restarted f).StoreExact :=
    storeExact_of_noEntries (wf_entries h.form (Nat.zero_le _)) rfl
  unfold Machine.answerRestart
  repeat' split
  · exact h
  · exact h
  · exact emptied

/-! ### Answers that leave the store alone -/

theorem parkLane_store (s : State) (l : LaneNo) : (s.parkLane l).state.store = s.store := by
  unfold State.parkLane
  dsimp only
  repeat' split
  case h_3.isFalse.isFalse => exact State.closeBook_store _ l
  all_goals rfl

theorem unparkLane_store (s : State) (l : LaneNo) : (s.unparkLane l).state.store = s.store := by
  unfold State.unparkLane
  dsimp only
  repeat' split
  all_goals rfl

theorem requestClose_store (s : State) (l : LaneNo) : (s.requestClose l).state.store = s.store := by
  unfold State.requestClose
  repeat' split
  · rfl
  · exact s.closeBook_store l
  all_goals rfl

theorem abortTransfer_store (s : State) (t : Transfer) : (s.abortTransfer t).state.store = s.store := by
  unfold State.abortTransfer
  split
  case h_1 | h_2 | h_3 => exact s.enterRetreat_store
  case h_4 | h_5 | h_6 => exact s.enterAborting_store t
  all_goals rfl

theorem answerPartitionStore_store (f : Frame) (s : State) : (answerPartitionStore f s).state.store = s.store := by
  unfold answerPartitionStore
  repeat' split
  all_goals rfl

theorem answerReadJob_store (f : Frame) (s : State) : (answerReadJob f s).state.store = s.store := by
  unfold answerReadJob
  repeat' split
  all_goals rfl

theorem answerSetStack_store (f : Frame) (s : State) : (answerSetStack f s).state.store = s.store := by
  unfold answerSetStack
  dsimp only
  repeat' split
  all_goals rfl

theorem answerLoadStack_store (f : Frame) (s : State) : (answerLoadStack f s).state.store = s.store := by
  unfold answerLoadStack
  dsimp only
  repeat' split
  all_goals rfl

theorem answerUnloadStack_store (f : Frame) (s : State) : (answerUnloadStack f s).state.store = s.store := by
  unfold answerUnloadStack
  repeat' split
  all_goals rfl

theorem answerSetLane_store (f : Frame) (s : State) : (answerSetLane f s).state.store = s.store := by
  unfold answerSetLane
  dsimp only
  repeat' split
  all_goals rfl

theorem answerReadLane_store (f : Frame) (s : State) : (answerReadLane f s).state.store = s.store := by
  unfold answerReadLane
  repeat' split
  all_goals rfl

theorem answerParkLane_store (f : Frame) (s : State) : (answerParkLane f s).state.store = s.store := by
  unfold answerParkLane
  split
  · rfl
  · exact parkLane_store s _

theorem answerUnparkLane_store (f : Frame) (s : State) : (answerUnparkLane f s).state.store = s.store := by
  unfold answerUnparkLane
  split
  · rfl
  · exact unparkLane_store s _

theorem answerCloseBook_store (f : Frame) (s : State) : (answerCloseBook f s).state.store = s.store := by
  unfold answerCloseBook
  split
  · rfl
  · exact requestClose_store s _

theorem answerSetModes_store (f : Frame) (s : State) : (answerSetModes f s).state.store = s.store := by
  unfold answerSetModes
  split
  · rfl
  · split
    · rfl
    · exact State.setDryRun_store _ _

theorem answerSetTravel_store (f : Frame) (s : State) : (answerSetTravel f s).state.store = s.store := by
  unfold answerSetTravel
  dsimp only
  repeat' split
  case isFalse.isFalse.isFalse.isFalse.isFalse.isFalse => exact State.travelChanged_store _ _
  all_goals rfl

theorem answerResume_store (f : Frame) (z : Nat) (s : State) : (answerResume f z s).state.store = s.store := by
  unfold answerResume
  split
  · rfl
  · split
    · rfl
    · exact s.resumeWork_store _ z

theorem answerAbort_store (f : Frame) (s : State) : (answerAbort f s).state.store = s.store := by
  unfold answerAbort
  split
  · split
    · exact abortTransfer_store s _
    · rfl
  all_goals rfl

/-! ### Every answer -/

theorem State.StoreExact.answerOf {s : State} (h : s.StoreExact) (k : RequestKind) (f : Frame) (z : Nat) :
    (answerOf k f z s).state.StoreExact := by
  cases k
  case queryStatus | readFault | readConfig | readStacks | run | hold => exact h.of_store rfl
  case setModes => exact h.of_store (answerSetModes_store f s)
  case setTravel => exact h.of_store (answerSetTravel_store f s)
  case partitionStore => exact h.of_store (answerPartitionStore_store f s)
  case restart => exact h.answerRestart f
  case defineType => exact h.answerDefineType f
  case dropType => exact h.answerDropType f
  case setTypeCursor => exact h.answerSetTypeCursor f
  case readTypes => exact h.answerReadTypes f
  case enqueueJob => exact h.answerEnqueueJob f
  case amendJob => exact h.answerAmendJob f
  case cancelJob => exact h.answerCancelJob f
  case readJob => exact h.of_store (answerReadJob_store f s)
  case setListCursor => exact h.answerSetListCursor f
  case listJobs => exact h.answerListJobs f
  case setStack => exact h.of_store (answerSetStack_store f s)
  case loadStack => exact h.of_store (answerLoadStack_store f s)
  case unloadStack => exact h.of_store (answerUnloadStack_store f s)
  case setLane => exact h.of_store (answerSetLane_store f s)
  case parkLane => exact h.of_store (answerParkLane_store f s)
  case unparkLane => exact h.of_store (answerUnparkLane_store f s)
  case closeBook => exact h.of_store (answerCloseBook_store f s)
  case readLane => exact h.of_store (answerReadLane_store f s)
  case home => exact h.answerHome f
  case halt => exact h.of_store s.halt_store
  case resume => exact h.of_store (answerResume_store f z s)
  case abort => exact h.of_store (answerAbort_store f s)
  case clearFault => exact h.answerClearFault f
  case releaseHeld => exact h.answerReleaseHeld f

/-! ## The decoder, the receiver and the clearing -/

theorem State.StoreExact.placeReply {s : State} (h : s.StoreExact) (f : Frame) (r : Result) (p : List Byte) :
    (s.placeReply f r p).StoreExact :=
  h.of_store (by simp)

theorem State.StoreExact.deliver {a : Answer} (h : a.state.StoreExact) (f : Frame) : (a.deliver f).StoreExact := by
  unfold Answer.deliver
  dsimp only
  repeat' split
  · exact h
  · exact (h.placeReply ..).reevaluate
  · exact h.placeReply ..

theorem State.StoreExact.examine {s : State} (h : s.StoreExact) (f : Frame) (z : Nat) : (s.examine f z).StoreExact := by
  unfold State.examine
  split
  · exact h.placeReply ..
  · repeat' split
    · exact h.placeReply ..
    · exact h.placeReply ..
    · exact (h.answerOf _ f z).deliver f

theorem State.StoreExact.setLink {s : State} (h : s.StoreExact) (k : Link) : (s.setLink k).StoreExact :=
  h.of_store rfl

theorem State.StoreExact.takeHeld {s : State} (h : s.StoreExact) (z : Nat) : (s.takeHeld z).StoreExact := by
  unfold State.takeHeld
  split
  · exact (h.setLink _).examine _ z
  · exact h

theorem State.StoreExact.frameComplete {s : State} (h : s.StoreExact) (f : Frame) (z : Nat) :
    (s.frameComplete f z).StoreExact := by
  unfold State.frameComplete
  split
  · exact h.setLink _
  · exact (h.setLink _).takeHeld z

theorem State.StoreExact.requestArrives {s : State} (h : s.StoreExact) (f : Frame) (z : Nat) :
    (s.requestArrives f z).StoreExact := by
  unfold State.requestArrives
  split
  · exact h.setLink _
  · exact h.frameComplete f z

theorem State.StoreExact.takeCharacter {s : State} (h : s.StoreExact) (v : Byte) (ok : Bool) (z : Nat) :
    (s.takeCharacter v ok z).StoreExact := by
  have assembled : ∀ bs, (s.assemble bs z).StoreExact := by
    intro bs
    unfold State.assemble
    repeat' split
    · exact h.setLink _
    · exact (h.setLink _).frameComplete _ z
    · exact h.setLink _
    · exact h.setLink _
  unfold State.takeCharacter
  repeat' split
  · exact h.setLink _
  · exact h
  · exact assembled _
  · exact h.setLink _

theorem State.StoreExact.gapExpires {s : State} (h : s.StoreExact) : s.gapExpires.StoreExact := by
  unfold State.gapExpires
  split
  · exact h
  · exact h.setLink _

theorem State.StoreExact.clearingReply {s : State} (h : s.StoreExact) (f : Frame) (p : List Byte) :
    (s.clearingReply f p).StoreExact := by
  unfold State.clearingReply
  split
  · exact (h.of_store (by simp))
  · exact h.of_store rfl

/-- The clearing ends in an empty list (R4, R6, R7). -/
theorem State.StoreExact.clearingEnds {s : State} (h : s.StoreExact) : s.clearingEnds.StoreExact := by
  unfold State.clearingEnds
  split
  · exact storeExact_of_noEntries (wf_cleared _) rfl
  · exact State.StoreExact.clearingReply (storeExact_of_noEntries (wf_cleared _) rfl) ..
  · exact State.StoreExact.clearingReply (storeExact_of_noEntries (wf_clearJobs h.form) rfl) ..
  · exact h
  · exact h

theorem State.StoreExact.placeWaiting {s : State} (h : s.StoreExact) : s.placeWaiting.StoreExact := by
  unfold State.placeWaiting
  split
  · exact (h.of_store (by simp))
  · exact h

theorem State.StoreExact.startFrame {s : State} (h : s.StoreExact) (z : Nat) : (s.startFrame z).StoreExact := by
  unfold State.startFrame State.sendNext
  repeat' split
  · exact (h.setLink _).takeHeld z
  all_goals exact h.of_store rfl

/-! ## The cell's events -/

theorem State.StoreExact.inPosition {s : State} (h : s.StoreExact) (a : Axis) (stale : Bool) :
    (s.inPosition a stale).StoreExact := by
  unfold State.inPosition
  split
  · exact h
  · exact h.axisReported a

theorem State.StoreExact.homedReport {s : State} (h : s.StoreExact) (a : Axis) (stale : Bool) :
    (s.homedReport a stale).StoreExact := by
  unfold State.homedReport
  split
  · exact h
  · exact h.axisReported a

theorem State.StoreExact.contactRises {s : State} (h : s.StoreExact) (z : Nat) : (s.contactRises z).StoreExact := by
  unfold State.contactRises
  split
  · exact h.of_store (s.contactEvent_store z)
  · exact h

theorem State.StoreExact.sawRises {s : State} (h : s.StoreExact) : s.sawRises.StoreExact := by
  unfold State.sawRises
  split
  · exact h
  · exact h.reevaluate

theorem State.StoreExact.gripSettles {s : State} (h : s.StoreExact) (g : Bool) : (s.gripSettles g).StoreExact := by
  unfold State.gripSettles
  repeat' split
  · exact h.gripExpiry _ g
  · exact h
  · exact h

theorem State.StoreExact.releaseSettles {s : State} (h : s.StoreExact) : s.releaseSettles.StoreExact := by
  unfold State.releaseSettles
  repeat' split
  · exact h.releaseExpiry _
  · exact h
  · exact h.rejectExpiry
  · exact h
  · exact h

theorem State.StoreExact.dryMoveEnds {s : State} (h : s.StoreExact) : s.dryMoveEnds.StoreExact := by
  unfold State.dryMoveEnds
  split
  · exact State.StoreExact.completeMove (h.of_store rfl)
  · exact h
  · exact h

theorem State.StoreExact.takeOverEvent {s : State} (h : s.StoreExact) (l : LaneNo) :
    (s.takeOverEvent l).StoreExact := by
  have taken : (s.takeOver l).1.StoreExact := h.of_store (by simp)
  unfold State.takeOverEvent
  split
  · exact taken.reevaluate
  · exact taken

theorem State.StoreExact.taken {s : State} (h : s.StoreExact) (l : LaneNo) : (s.taken l).StoreExact := by
  unfold State.taken
  repeat' split
  · exact h.takeOverEvent l
  all_goals exact h.of_store rfl

theorem State.StoreExact.laneTimerExpires {s : State} (h : s.StoreExact) (l : LaneNo) :
    (s.laneTimerExpires l).StoreExact := by
  unfold State.laneTimerExpires
  repeat' split
  · exact h.of_store rfl
  · exact h.takeOverEvent l
  · exact h

theorem State.StoreExact.bookWaitExpires {s : State} (h : s.StoreExact) (l : LaneNo) :
    (s.bookWaitExpires l).StoreExact := by
  unfold State.bookWaitExpires
  split
  · exact h.of_store (by simp)
  · exact h

theorem State.StoreExact.crosses {s : State} (h : s.StoreExact) (l : LaneNo) : (s.crosses l).StoreExact := by
  unfold State.crosses
  split
  · exact State.StoreExact.reevaluate (h.of_store rfl)
  · exact h

/-! ## Every command -/

/-- A command taken outside reset leaves the store exact when its effect does. -/
theorem State.StoreExact.take {s t : State} (h : s.StoreExact) {f : State → State} (e : s.take f = .next t)
    (hf : ∀ u : State, u.StoreExact → (f u).StoreExact) : t.StoreExact := by
  unfold State.take at e
  cases e
  split
  · exact h.of_store rfl
  · exact hf _ (h.of_store rfl)

/-- A line's command leaves the store exact when its event does. -/
theorem State.StoreExact.onLine {s t : State} (h : s.StoreExact) {i : Inputs} {f : State → State}
    (e : s.onLine i f = .next t) (hf : ∀ u : State, u.StoreExact → (f u).StoreExact) : t.StoreExact := by
  unfold State.onLine at e
  cases e
  split
  · exact h.of_store rfl
  · exact hf _ (h.of_store rfl)

/-- An effect made on an asserted level only. -/
theorem storeExact_ifLevel {f : State → State} (hf : ∀ u : State, u.StoreExact → (f u).StoreExact) (level : Bool) :
    ∀ u : State, u.StoreExact → (if level then f u else u).StoreExact := by
  intro u hu
  split
  · exact hf u hu
  · exact hu

theorem exec_keeps_storeExact {s t : State} (h : s.StoreExact) (c : Instr) (e : exec c s = .next t) :
    t.StoreExact := by
  cases c
  case powerOnReset => cases e; exact storeExact_of_noEntries (wf_cleared .p1) rfl
  case resetPinAsserted => cases e; exact h.of_store rfl
  case hostReadyAsserted => cases e; exact h.of_store rfl
  case characterReceived v ok z =>
    exact h.take (f := fun u => u.takeCharacter v ok z) e fun u hu => hu.takeCharacter v ok z
  case gapTimerExpiry => exact h.take (f := State.gapExpires) e fun u hu => hu.gapExpires
  case lineBreak => exact h.take (f := fun u => u.dropFrame .break) e fun u hu => hu.setLink _
  case storeClearingEnd => exact h.take (f := State.clearingEnds) e fun u hu => hu.clearingEnds
  case waitingReplyPlaced => exact h.take (f := State.placeWaiting) e fun u hu => hu.placeWaiting
  case frameStart z => exact h.take (f := fun u => u.startFrame z) e fun u hu => hu.startFrame z
  case frameSent => exact h.take (f := State.endFrame) e fun u hu => hu.setLink _
  case starveCrossing l => exact h.take (f := fun u => u.crosses l) e fun u hu => hu.crosses l
  case safetyLineAsserted => exact h.onLine (f := State.halt) e fun u hu => hu.of_store u.halt_store
  case safetyLineReleased => exact h.onLine (f := id) e fun u hu => hu
  case inPositionReport a stale z =>
    exact h.onLine (f := fun u => u.inPosition a stale) e fun u hu => hu.inPosition a stale
  case dryMoveElapsed => exact h.take (f := State.dryMoveEnds) e fun u hu => hu.dryMoveEnds
  case homedReport a stale => exact h.take (f := fun u => u.homedReport a stale) e fun u hu => hu.homedReport a stale
  case contactAsserted level z =>
    exact h.onLine (f := fun u => if level then u.contactRises z else u) e
      (storeExact_ifLevel (fun u hu => hu.contactRises z) level)
  case gripSettleExpiry g => exact h.take (f := fun u => u.gripSettles g) e fun u hu => hu.gripSettles g
  case releaseSettleExpiry => exact h.take (f := State.releaseSettles) e fun u hu => hu.releaseSettles
  case dropFault level =>
    exact h.onLine (f := fun u => if level then u.holdLost else u) e
      (storeExact_ifLevel (fun u hu => hu.holdLost) level)
  case driveFaultAsserted a level =>
    exact h.onLine (f := fun u => if level then u.inputFault (driveFaultKind a) else u) e
      (storeExact_ifLevel (fun u hu => hu.inputFault _) level)
  case limitAsserted level =>
    exact h.onLine (f := fun u => if level then u.inputFault .limit else u) e
      (storeExact_ifLevel (fun u hu => hu.inputFault _) level)
  case takenPulse l => exact h.take (f := fun u => u.taken l) e fun u hu => hu.taken l
  case sawReadyRise => exact h.onLine (f := State.sawRises) e fun u hu => hu.sawRises
  case sawReadyFall => exact h.onLine (f := id) e fun u hu => hu
  case laneTimerExpiry l => exact h.take (f := fun u => u.laneTimerExpires l) e fun u hu => hu.laneTimerExpires l
  case bookWaitExpiry l => exact h.take (f := fun u => u.bookWaitExpires l) e fun u hu => hu.bookWaitExpires l
  case resume b z =>
    exact h.take (f := fun u => u.requestArrives (frameOfRequest .resume b) z) e fun u hu => hu.requestArrives _ z
  all_goals
    exact h.take (f := fun u => u.requestArrives { kind := _, body := _ } u.inputs.zReport) e
      fun u hu => hu.requestArrives _ _

/-- Settles O56: the commands keep the store exact one by one, and a millisecond leaves it alone. -/
theorem stepKeepsTheStoreExact : Obligations.StepKeepsTheStoreExact := by
  unfold Obligations.StepKeepsTheStoreExact
  intro s t h e
  unfold step at e
  split at e
  · cases e
    exact h.of_store s.tick_store
  · next c rest _ =>
    have queued : (s.withPending rest).StoreExact := h.of_store rfl
    exact exec_keeps_storeExact queued c e

end Sys2Proof.Machine
end

section
/-! The Panel Store's requests, the end of a clearing, and the power-on state (R1 to R16, R18, R40, R171, R183). -/

namespace Sys2Proof.Machine

/-! ## Power-on -/

/-- Settles O4: each block of the power-on state is read off it; lanes and stacks one by one. -/
theorem powerOnResetSetsEveryBlock : Obligations.PowerOnResetSetsEveryBlock := by
  unfold Obligations.PowerOnResetSetsEveryBlock
  intro strap1 strap0 s
  have baud : baudCode strap1 strap0 =
      match strap1, strap0 with | false, false => 0 | false, true => 1 | true, false => 2 | true, true => 3 := by
    cases strap1 <;> cases strap0 <;> rfl
  have everyStack : ∀ k, (s.poweredOn strap1 strap0).stack k = .powerOn := fun k => by cases k <;> rfl
  have everyLane : ∀ l, (s.poweredOn strap1 strap0).lane l = .powerOn := fun l => by cases l <;> rfl
  refine ⟨s.poweredOn strap1 strap0, rfl, rfl, rfl, rfl, rfl, ?_, rfl, everyStack, fun l => ?_, rfl, rfl, rfl, rfl, rfl, rfl,
    rfl, rfl, rfl, rfl, rfl, rfl, rfl⟩
  · exact congrArg Link.powerOn baud
  · rw [everyLane l]
    exact ⟨rfl, rfl, rfl, rfl, rfl, rfl, rfl, rfl, rfl, rfl, rfl, rfl, rfl, rfl⟩

/-! ## The end of a clearing (R171) -/

theorem exec_storeClearingEnd {s : State} (h : s.resetHeld = false) :
    exec .storeClearingEnd s = .next s.quiet.clearingEnds :=
  take_running h _

theorem exec_waitingReplyPlaced {s : State} (h : s.resetHeld = false) :
    exec .waitingReplyPlaced s = .next s.quiet.placeWaiting :=
  take_running h _

/-- The reply of a clearing: placed with the decoder READY, or waiting for the slot. -/
theorem clearingReply_eq (s : State) (f : Frame) (p : List Byte) :
    s.clearingReply f p =
      if s.link.slot = none then ({ s with decoder := .ready } : State).withReply f.kind f.body .ok p
      else { s with waiting := some { request := f, payload := p } } := by
  unfold State.clearingReply
  cases s.link.slot with
  | none => exact placeReply_eq_withReply _ f.kind f.body .ok p nofun
  | some r => rfl

/-- A clearing that has ended, or never began, does not end again. -/
theorem clearingEnds_of_ended {s : State} (h : s.waiting.isSome = true ∨ s.decoder = .ready) : s.clearingEnds = s := by
  unfold State.clearingEnds
  split
  case h_4 | h_5 => rfl
  all_goals simp_all

theorem placeWaiting_of_blocked {s : State} (h : s.waiting = none ∨ s.link.slot.isSome = true) : s.placeWaiting = s := by
  unfold State.placeWaiting
  split
  · simp_all
  · rfl

/-- Settles O13: each clearing runs its arm, and its reply is placed or waits by `clearingReply_eq`. -/
theorem clearingEndsWithItsReply : Obligations.ClearingEndsWithItsReply := by
  unfold Obligations.ClearingEndsWithItsReply
  intro s h
  rw [exec_storeClearingEnd h, exec_waitingReplyPlaced h]
  refine ⟨fun hw hd => ?_, fun p f hw hd => ?_, fun f hw hd => ?_, fun he => ?_, fun w hw hs => ?_, fun hb => ?_⟩
  · simp [State.clearingEnds, hw, hd]
  · have ends : s.quiet.clearingEnds = ({ s.quiet with store := .cleared p } : State).clearingReply f p.fields := by
      simp [State.clearingEnds, hw, hd]
    rw [ends, clearingReply_eq]
    rfl
  · have ends : s.quiet.clearingEnds = ({ s.quiet with store := s.store.clearJobs } : State).clearingReply f [] := by
      simp [State.clearingEnds, hw, hd]
    rw [ends, clearingReply_eq]
    rfl
  · rw [clearingEnds_of_ended (s := s.quiet) he]
  · have placed : s.quiet.placeWaiting =
        ({ s.quiet with decoder := .ready, waiting := none } : State).placeReply w.request .ok w.payload := by
      simp [State.placeWaiting, hw, hs]
    rw [placed]
    exact congrArg _ (placeReply_eq_withReply _ w.request.kind w.request.body .ok w.payload nofun)
  · rw [placeWaiting_of_blocked (s := s.quiet) hb]

/-! ## Books and types in use (R3, R11) -/

theorem book_eq_some {v : LaneState} {b : Book} : v.book = some b ↔ v = .filling b ∨ v = .handed b := by
  cases v <;> simp [LaneState.book]

theorem someBook_iff (s : State) :
    s.someBook = true ↔ (∃ l bk, (s.lane l).state = .filling bk) ∨ ∃ l bk, (s.lane l).state = .handed bk := by
  simp only [State.someBook, List.any_eq_true, mem_allLanes, true_and, Option.isSome_iff_exists, book_eq_some, exists_or]

theorem transferHolds_iff (s : State) :
    s.transferHolds = true ↔ s.gantry.state = .cycling ∨ s.gantry.state = .aborting ∨
      s.gantry.state = .halted .cycling ∨ s.gantry.state = .halted .aborting ∨
      (s.gantry.state = .fault ∧ s.transfer.isSome = true) := by
  unfold State.transferHolds
  split <;> simp_all

/-- Checks 2 to 5 of R3, spelled out. -/
theorem storeInUse_iff (s : State) :
    s.storeInUse = true ↔ s.store.jobs.entries ≠ [] ∨ (∃ k, (s.stack k).present = true) ∨
      ((∃ l bk, (s.lane l).state = .filling bk) ∨ ∃ l bk, (s.lane l).state = .handed bk) ∨
      (s.gantry.state = .cycling ∨ s.gantry.state = .aborting ∨ s.gantry.state = .halted .cycling ∨
        s.gantry.state = .halted .aborting ∨ (s.gantry.state = .fault ∧ s.transfer.isSome = true)) := by
  rw [← someBook_iff, ← transferHolds_iff]
  simp [State.storeInUse, State.entryCount, or_assoc]

/-- A type in use (R11), spelled out. -/
theorem typeInUse_iff (s : State) (n : Nat) :
    s.typeInUse n = true ↔
      (∃ j ∈ s.store.jobs.entries, j.type = n) ∨ (∃ k, (s.stack k).present = true ∧ (s.stack k).type = n) ∨
      (∃ l bk, ((s.lane l).state = .filling bk ∨ (s.lane l).state = .handed bk) ∧ bk.key.type = n) ∨
      (∃ t, s.transfer = some t ∧ t.key.type = n) := by
  simp [State.typeInUse, Option.any_eq_true, book_eq_some, or_assoc]

/-! ## PARTITION STORE -/

theorem exec_partitionStore {b : Body} {s : State} (h : s.ready) (hb : b.payload.length = 1) :
    exec (.partitionStore b) s =
      .next ((answerPartitionStore (frameOfRequest .partitionStore b) s.quiet).deliver (frameOfRequest .partitionStore b)) :=
  exec_request_ready h .partitionStore b hb 0

/-- Settles O14: the partition number is read back, and the checks of R3 are `storeInUse_iff`. -/
theorem partitionStoreNeedsAnEmptyCell : Obligations.PartitionStoreNeedsAnEmptyCell := by
  unfold Obligations.PartitionStoreNeedsAnEmptyCell
  intro b s h hb
  rw [exec_partitionStore h hb]
  refine ⟨fun hp => ?_, fun p hp => ⟨fun hu => ?_, fun he hk hl hc ha hhc hha hf => ?_⟩⟩
  · have answer : answerPartitionStore (frameOfRequest .partitionStore b) s.quiet = refuse .outOfRange s.quiet := by
      simp [answerPartitionStore, frameOfRequest, partitionOf_eq_none.2 hp]
    rw [answer, deliver_refuse]
    rfl
  · have used : s.quiet.storeInUse = true :=
      (storeInUse_iff s).2 (by simpa only [or_assoc] using hu)
    have answer : answerPartitionStore (frameOfRequest .partitionStore b) s.quiet = refuse .storeInUse s.quiet := by
      simp [answerPartitionStore, frameOfRequest, partitionOf_eq_some.2 hp, used]
    rw [answer, deliver_refuse]
    rfl
  · have free : s.quiet.storeInUse = false := by
      refine Bool.eq_false_iff.2 fun hu => ?_
      rcases (storeInUse_iff s).1 hu with hu | ⟨k, hu⟩ | (⟨l, bk, hu⟩ | ⟨l, bk, hu⟩) | hu
      · exact hu he
      · simp [hk k] at hu
      · simpa [hu, LaneState.book] using hl l
      · simpa [hu, LaneState.book] using hl l
      · simp_all
    simp [answerPartitionStore, frameOfRequest, partitionOf_eq_some.2 hp, free, Answer.deliver, RequestKind.code]

/-! ## DEFINE TYPE -/

theorem exec_defineType {b : Body} {s : State} (h : s.ready) (hb : b.payload.length = 8) :
    exec (.defineType b) s =
      .next ((answerDefineType (frameOfRequest .defineType b) s.quiet).deliver (frameOfRequest .defineType b)) :=
  exec_request_ready h .defineType b hb 0

theorem typeInRange_iff (len wid thk cls : Nat) :
    typeInRange len wid thk cls = true ↔
      Between 5400 56000 len ∧ Between 2000 22000 wid ∧ Between 30 800 thk ∧ Between 1 4 cls := by
  simp [typeInRange, Between, and_assoc]

/-- A type number below T is defined exactly when it is listed (R8). -/
theorem typeDefined_eq {s : State} {n : Nat} (h : n < s.store.partition.typeSlots) :
    s.typeDefined n = (lookupType s.store.types n).isSome := by
  simp [State.typeDefined, State.typeSlots, h]

/-- Settles O18: R11 is `typeInUse_iff`, the checks run in their order, and the written list reads back by
`lookup_insert_self` and `lookup_insert_other`. -/
theorem defineTypeWritesTheEntry : Obligations.DefineTypeWritesTheEntry := by
  unfold Obligations.DefineTypeWritesTheEntry
  refine ⟨typeInUse_iff, fun b s h hb => ?_⟩
  rw [exec_defineType h hb]
  refine ⟨fun hn => ?_, fun hn hr => ?_, fun hn hlen hwid hthk hcls => ?_⟩
  · have answer : answerDefineType (frameOfRequest .defineType b) s.quiet = refuse .typeUndefined s.quiet := by
      simp [answerDefineType, frameOfRequest, State.typeSlots, hn]
    rw [answer, deliver_refuse]
    rfl
  · have answer : answerDefineType (frameOfRequest .defineType b) s.quiet = refuse .outOfRange s.quiet := by
      rw [← typeInRange_iff] at hr
      simp [answerDefineType, frameOfRequest, State.typeSlots, Nat.not_le.2 hn, newType, hr]
    rw [answer, deliver_refuse]
    rfl
  · have range := (typeInRange_iff _ _ _ _).2 ⟨hlen, hwid, hthk, hcls⟩
    have defined : s.quiet.typeDefined (u8 b.payload 0) = (lookupType s.store.types (u8 b.payload 0)).isSome :=
      typeDefined_eq hn
    refine ⟨fun hz => ?_, fun hz hd hu => ?_, fun hz hfree => ?_⟩
    · have answer : answerDefineType (frameOfRequest .defineType b) s.quiet = refuse .gripShort s.quiet := by
        simp [answerDefineType, frameOfRequest, State.typeSlots, Nat.not_le.2 hn, newType, range, classMinimum, hz]
      rw [answer, deliver_refuse]
      rfl
    · have used : s.quiet.typeInUse (u8 b.payload 0) = true := hu
      have answer : answerDefineType (frameOfRequest .defineType b) s.quiet = refuse .typeInUse s.quiet := by
        simp [answerDefineType, frameOfRequest, State.typeSlots, Nat.not_le.2 hn, newType, range, classMinimum,
          Nat.not_lt.2 hz, defined, hd, used]
      rw [answer, deliver_refuse]
      rfl
    · have free : (s.quiet.typeDefined (u8 b.payload 0) && s.quiet.typeInUse (u8 b.payload 0)) = false := by
        rw [defined]
        rcases hfree with hd | hu
        · simp [hd]
        · exact Bool.and_eq_false_iff.2 (.inr hu)
      have answer : answerDefineType (frameOfRequest .defineType b) s.quiet =
          reading [zoneMask (u16 b.payload 1), byteOf (zoneCount (u16 b.payload 1))]
            (s.quiet.setTypes (insertType s.store.types (u8 b.payload 0)
              (newType (u16 b.payload 1) (u16 b.payload 3) (u16 b.payload 5) (u8 b.payload 7)))) := by
        simp [answerDefineType, frameOfRequest, State.typeSlots, Nat.not_le.2 hn, newType, range, classMinimum,
          Nat.not_lt.2 hz, free]
      rw [answer, deliver_reading]
      exact ⟨_, rfl, lookup_insert_self _ _ _, fun m hm => lookup_insert_other _ _ _ _ hm⟩

/-! ## DROP TYPE -/

theorem exec_dropType {b : Body} {s : State} (h : s.ready) (hb : b.payload.length = 1) :
    exec (.dropType b) s =
      .next ((answerDropType (frameOfRequest .dropType b) s.quiet).deliver (frameOfRequest .dropType b)) :=
  exec_request_ready h .dropType b hb 0

/-- Settles O19: the rows of R12's table, the erased list read back by `lookup_erase_self` and `lookup_erase_other`. -/
theorem dropTypeActsByItsTable : Obligations.DropTypeActsByItsTable := by
  unfold Obligations.DropTypeActsByItsTable
  intro b s h hb form
  rw [exec_dropType h hb]
  refine ⟨fun hn => ?_, fun hn => ?_⟩
  · have answer : answerDropType (frameOfRequest .dropType b) s.quiet = refuse .typeUndefined s.quiet := by
      simp [answerDropType, frameOfRequest, State.typeSlots, hn]
    rw [answer, deliver_refuse]
    rfl
  have defined : s.quiet.typeDefined (u8 b.payload 0) = (lookupType s.store.types (u8 b.payload 0)).isSome :=
    typeDefined_eq hn
  refine ⟨fun hd => ?_, fun hd => ⟨fun hu => ?_, fun hj hk hl ht => ?_⟩⟩
  · have answer : answerDropType (frameOfRequest .dropType b) s.quiet = accept s.quiet := by
      simp [answerDropType, frameOfRequest, State.typeSlots, Nat.not_le.2 hn, defined, hd]
    rw [answer, deliver_accept]
    rfl
  · have used : s.quiet.typeInUse (u8 b.payload 0) = true := (typeInUse_iff s _).2 hu
    have answer : answerDropType (frameOfRequest .dropType b) s.quiet = refuse .typeInUse s.quiet := by
      simp [answerDropType, frameOfRequest, State.typeSlots, Nat.not_le.2 hn, defined, hd, used]
    rw [answer, deliver_refuse]
    rfl
  · have free : s.quiet.typeInUse (u8 b.payload 0) = false := by
      refine Bool.eq_false_iff.2 fun hu => ?_
      rcases (typeInUse_iff s _).1 hu with ⟨j, hm, e⟩ | ⟨k, hp, e⟩ | ⟨l, bk, hbk, e⟩ | ⟨t, hs, e⟩
      · exact hj j hm e
      · exact hk k hp e
      · exact hl l bk (book_eq_some.2 hbk) e
      · exact ht t hs e
    have answer : answerDropType (frameOfRequest .dropType b) s.quiet =
        accept (s.quiet.setTypes (eraseType s.store.types (u8 b.payload 0))) := by
      simp [answerDropType, frameOfRequest, State.typeSlots, Nat.not_le.2 hn, defined, hd, free]
    rw [answer, deliver_accept]
    exact ⟨_, rfl, lookup_erase_self ((wf_iff _).1 form).1 _, fun m hm => lookup_erase_other _ _ _ hm⟩

/-! ## READ TYPES and LIST JOBS -/

/-- The record of a type that is not listed is zeros after its number (R15). -/
theorem typeRecord_undefined {s : State} {n : Nat} (h : lookupType s.store.types n = none) :
    s.typeRecord n = byteOf n :: List.replicate 10 0 := by
  have undefined : s.typeDefined n = false := by simp [State.typeDefined, h]
  have zeros : s.typeEntry n = .undefined := by simp [State.typeEntry, h]
  rw [State.typeRecord, undefined, zeros]
  rfl

theorem typeRecord_defined {s : State} {n : Nat} {e : TypeEntry} (hn : n < s.store.partition.typeSlots)
    (h : lookupType s.store.types n = some e) :
    s.typeRecord n =
      [byteOf n, 1] ++ le16 e.len ++ le16 e.wid ++ le16 e.thk ++ [byteOf e.cls, e.mask, byteOf e.zones] := by
  simp [State.typeRecord, State.typeEntry, typeDefined_eq hn, h, flagByte]

/-- A located entry is the entry in its slot (R21). -/
theorem jobAt_of_located {s : State} (form : s.store.wf = true) {e : Located} (he : e ∈ s.located) :
    ∃ i, s.indexOfSlot e.slot = some i ∧ s.store.jobs.entries[i]? = some e.job ∧ e.pos = i + 1 := by
  obtain ⟨-, -, -, hstart, hlen⟩ := (wf_iff _).1 form
  obtain ⟨i, hi, hslot, hpos⟩ := mem_located he
  have hlt : i < s.entryCount := (List.getElem?_eq_some_iff.1 hi).1
  exact ⟨i, by rw [hslot]; exact index_of_slot hstart hlt hlen, hi, hpos⟩

theorem find_slot_none {s : State} (form : s.store.wf = true) {n : Nat} (h : s.jobAt n = none) :
    (s.located.find? fun e => e.slot == n) = none := by
  refine List.find?_eq_none.2 fun e he hn => ?_
  obtain ⟨i, hi, hj, -⟩ := jobAt_of_located form he
  have hs : e.slot = n := by simpa using hn
  rw [jobAt_eq_some.2 ⟨i, hs ▸ hi, hj⟩] at h
  cases h

/-- The entry in a slot is the one found there, with its position (R21). -/
theorem find_slot_some {s : State} (form : s.store.wf = true) {n : Nat} {j : Job} (h : s.jobAt n = some j) :
    ∃ i, (s.located.find? fun e => e.slot == n) = some { slot := n, pos := i + 1, job := j } ∧
      (s.store.jobs.start + i) % s.jobSlots = n ∧ i < s.entryCount := by
  obtain ⟨-, -, -, hstart, -⟩ := (wf_iff _).1 form
  obtain ⟨i, hi, hj⟩ := jobAt_eq_some.1 h
  obtain ⟨hslot, hlt⟩ := slot_of_index hstart hi
  have there : s.located[i]? = some { slot := n, pos := i + 1, job := j } := by
    rw [State.located, locateFrom_getElem?, hj, hslot]
    simp
  cases hf : s.located.find? fun e => e.slot == n with
  | none => exact absurd (List.find?_eq_none.1 hf _ (List.mem_of_getElem? there)) (by simp)
  | some e =>
    obtain ⟨k, hk, hkj, hpos⟩ := jobAt_of_located form (List.mem_of_find?_eq_some hf)
    have hn : e.slot = n := by simpa using List.find?_some hf
    rw [hn, hi] at hk
    cases hk
    rw [hj] at hkj
    obtain ⟨slot, pos, job⟩ := e
    cases hn
    cases hpos
    cases hkj
    exact ⟨i, rfl, hslot.symm, hlt⟩

theorem slotRecord_empty {s : State} (form : s.store.wf = true) {n : Nat} (h : s.jobAt n = none) :
    s.slotRecord n = le16 n ++ List.replicate 27 0 := by
  simp only [State.slotRecord, find_slot_none form h]
  rfl

/-- The fields of R18 with their codes spelled. -/
theorem Job.fields_eq (j : Job) :
    j.fields = le16 j.tag ++ [byteOf j.type, byteOf j.stack.code, byteOf (jobLaneCode j.lane), byteOf j.rotation.degrees] ++
      le16 j.pattern ++ [if j.urgent then (1 : Byte) else 0] ++ le16 j.count ++ le16 j.placed ++ le16 j.rejected ++
      le16 j.lost ++ le16 j.clamped ++
      [byteOf j.state.code, (match j.reason with | none => 0 | some .reach => 1 | some .fit => 2 : Byte),
        if j.cancelPending then 1 else 0, if j.inFlight then 1 else 0] := by
  have reason : byteOf (reasonCode j.reason) =
      (match j.reason with | none => 0 | some .reach => 1 | some .fit => 2 : Byte) := by
    rcases j.reason with _ | _ | _ <;> rfl
  rw [Job.fields, reason]
  rfl

theorem slotRecord_occupied {s : State} (form : s.store.wf = true) {n : Nat} {j : Job} (h : s.jobAt n = some j) :
    ∃ pos, (s.store.jobs.start + pos) % s.jobSlots = n ∧ pos < s.entryCount ∧
      s.slotRecord n = le16 n ++ [(1 : Byte)] ++ le16 (pos + 1) ++
        [if pos + 1 ≤ s.modes.window then (1 : Byte) else 0] ++ j.fields := by
  obtain ⟨pos, hf, hslot, hlt⟩ := find_slot_some form h
  have window : s.inWindow (pos + 1) = decide (pos + 1 ≤ s.modes.window) := by
    simp [State.inWindow, Nat.succ_le_of_lt hlt]
  refine ⟨pos, hslot, hlt, ?_⟩
  simp only [State.slotRecord, hf, window, flagByte, decide_eq_true_eq, if_true, List.append_assoc]

theorem exec_readTypes {b : Body} {s : State} (h : s.ready) (hb : b.payload = []) :
    exec (.readTypes b) s =
      .next ((answerReadTypes (frameOfRequest .readTypes b) s.quiet).deliver (frameOfRequest .readTypes b)) :=
  exec_request_ready h .readTypes b (congrArg List.length hb) 0

theorem exec_listJobs {b : Body} {s : State} (h : s.ready) (hb : b.payload = []) :
    exec (.listJobs b) s =
      .next ((answerListJobs (frameOfRequest .listJobs b) s.quiet).deliver (frameOfRequest .listJobs b)) :=
  exec_request_ready h .listJobs b (congrArg List.length hb) 0

/-- Settles O21: the records are `typeRecord` and `slotRecord` from the cursors on. -/
theorem readsWalkFromTheirCursors : Obligations.ReadsWalkFromTheirCursors := by
  unfold Obligations.ReadsWalkFromTheirCursors
  intro b s h hb form
  rw [exec_readTypes h hb, exec_listJobs h hb]
  refine ⟨⟨fun i => s.typeRecord ((s.store.typeCursor + i) % s.typeSlots), ?_, ?_⟩,
    ⟨fun i => s.slotRecord ((s.store.listCursor + i) % s.jobSlots), ?_, ?_⟩⟩
  · rw [answerReadTypes, deliver_reading]
    rfl
  · rintro i - n rfl
    exact ⟨typeRecord_undefined, fun e he => typeRecord_defined (Nat.mod_lt _ (typeSlots_pos _)) he⟩
  · rw [answerListJobs, deliver_reading]
    rfl
  · rintro i - n rfl
    refine ⟨slotRecord_empty form, fun j hj => ?_⟩
    obtain ⟨pos, hslot, hlt, hrec⟩ := slotRecord_occupied form hj
    exact ⟨pos, hslot, hlt, hrec.trans (congrArg _ j.fields_eq)⟩

end Sys2Proof.Machine
end

section
/-! RESTART, the cursors, and the records as they are read (R14, R18, R22, R38, R39, R41, R53, R95, R97, R184). -/

namespace Sys2Proof.Machine

/-! ## A request that is answered at once -/

/-- A request decided by an answer that does not wait: its reply, and the selection attempt it brings about. -/
theorem exec_answered {s : State} (h : s.ready) (k : RequestKind) (b : Body) (hb : b.payload.length = k.payloadLength)
    {a : Answer} (ha : answerOf k (frameOfRequest k b) 0 s.quiet = a) (hl : a.later = false)
    (hp : a.result.carries = false → a.payload = []) :
    exec (requestCommand k b 0) s =
      .next (if a.wake then (a.state.withReply k.code b a.result a.payload).reevaluate
        else a.state.withReply k.code b a.result a.payload) := by
  rw [exec_request_ready h k b hb 0, ha, deliver_now a k b hl hp]

/-- A refused request is answered and changes nothing else. -/
theorem exec_refused {s : State} (h : s.ready) (k : RequestKind) (b : Body) (hb : b.payload.length = k.payloadLength)
    {r : Result} (ha : answerOf k (frameOfRequest k b) 0 s.quiet = refuse r s.quiet) :
    exec (requestCommand k b 0) s = .next (s.quiet.withReply k.code b r []) :=
  exec_answered h k b hb ha rfl fun _ => rfl

/-- A read is answered and changes nothing else. -/
theorem exec_reading {s : State} (h : s.ready) (k : RequestKind) (b : Body) (hb : b.payload.length = k.payloadLength)
    {p : List Byte} {u : State} (ha : answerOf k (frameOfRequest k b) 0 s.quiet = reading p u) :
    exec (requestCommand k b 0) s = .next (u.withReply k.code b .ok p) :=
  exec_answered h k b hb ha rfl nofun

/-! ## RESTART -/

theorem answerRestart_moving {s : State} (f : Frame) (h1 : s.gantry.state ≠ .unhomed) (h2 : s.gantry.state ≠ .idle)
    (h3 : s.gantry.state ≠ .fault) : answerRestart f s = refuse .gantryState s := by
  simp [answerRestart, h1, h2, h3]

theorem answerRestart_held {s : State} (f : Frame) (hf : s.gantry.state = .fault) (hh : s.holding = true) :
    answerRestart f s = refuse .panelHeld s := by
  simp [answerRestart, hf, hh]

theorem answerRestart_accepted {s : State} (f : Frame)
    (h : s.gantry.state = .unhomed ∨ s.gantry.state = .idle ∨ (s.gantry.state = .fault ∧ s.holding = false)) :
    answerRestart f s = { result := .ok, payload := [], state := s.restarted f, wake := false, later := true } := by
  rcases h with h | h | ⟨h, hh⟩
  · simp [answerRestart, h]
  · simp [answerRestart, h]
  · simp [answerRestart, h, hh]

/-- Every lane of a restarted part is PARKED with its configuration kept (R97). -/
theorem restarted_lane (s : State) (f : Frame) (l : LaneNo) : (s.restarted f).lane l = (s.lane l).restarted :=
  PerLane.get_map _ _ _

/-- Settles O15: the gantry state decides between the refusals and `State.restarted`, whose lanes are read one by one. -/
theorem restartParksAndEmpties : Obligations.RestartParksAndEmpties := by
  unfold Obligations.RestartParksAndEmpties
  intro b s h hb
  have hlen : b.payload.length = RequestKind.restart.payloadLength := congrArg List.length hb
  refine ⟨fun hg => exec_refused h .restart b hlen ?_, fun hf hh => exec_refused h .restart b hlen ?_, fun hg => ?_⟩
  · refine answerRestart_moving (s := s.quiet) _ ?_ ?_ ?_ <;>
      rcases hg with ⟨x, hg⟩ | hg | hg | ⟨x, hg⟩ <;> simp [hg]
  · exact answerRestart_held (s := s.quiet) _ hf hh
  · have run : exec (.restart b) s = .next (s.quiet.restarted { kind := 0x07, body := b }) := by
      refine (exec_request_ready h .restart b hlen 0).trans ?_
      rw [answerOf, answerRestart_accepted (s := s.quiet) _ hg]
      rfl
    refine ⟨_, run, ?_, restarted_lane _ _⟩
    by_cases hf : s.gantry.state = .fault <;> simp [State.restarted, State.discardRecord, JobList.emptied, hf]

/-! ## The cursors -/

/-- Settles O20: the value decides between the three answers. -/
theorem cursorsTakeValidValues : Obligations.CursorsTakeValidValues := by
  unfold Obligations.CursorsTakeValidValues
  intro b s h
  refine ⟨fun hb => ?_, fun hb => ?_⟩
  · split
    · next hn => exact exec_answered h .setTypeCursor b hb (if_pos hn) rfl fun _ => rfl
    · next hn => exact exec_refused h .setTypeCursor b hb (if_neg hn)
  · split
    · next hn => exact exec_reading h .setListCursor b hb (if_pos hn)
    · next hn =>
      split
      · next hj => exact exec_answered h .setListCursor b hb ((if_neg hn).trans (if_pos hj)) rfl fun _ => rfl
      · next hj => exact exec_refused h .setListCursor b hb ((if_neg hn).trans (if_neg hj))

/-! ## The stacks as they are read (R53) -/

/-- A stack in work (R44): the record names it, in a phase before the grip. -/
theorem flagByte_inWork (s : State) (k : StackNo) :
    flagByte (s.inWork k) = match s.transfer with
      | some t => if t.stack = k ∧ (t.phase = .toStack ∨ t.phase = .search ∨ t.phase = .grip) then 1 else 0
      | none => 0 := by
  unfold State.inWork
  cases s.transfer with
  | none => rfl
  | some t =>
    have preGrip : t.phase.preGrip = true ↔ t.phase = .toStack ∨ t.phase = .search ∨ t.phase = .grip := by
      cases t.phase <;> simp [Phase.preGrip]
    simp [flagByte, preGrip]

/-! ## A lane as it is read (R95) -/

theorem placeIn_absent {l : LaneNo} {ls : List LaneNo} (h : l ∉ ls) : placeIn l ls = 0 := by
  induction ls with
  | nil => rfl
  | cons m r ih =>
    obtain ⟨hm, hr⟩ := not_or.1 (mt List.mem_cons.2 h)
    simp [placeIn, Ne.symm hm, ih hr]

/-- A lane's place is counted from 1 up to its first occurrence. -/
theorem placeIn_first {l : LaneNo} {before : List LaneNo} (h : l ∉ before) (after : List LaneNo) :
    placeIn l (before ++ l :: after) = before.length + 1 := by
  induction before with
  | nil => simp [placeIn]
  | cons m r ih =>
    obtain ⟨hm, hr⟩ := not_or.1 (mt List.mem_cons.2 h)
    simp [placeIn, Ne.symm hm, ih hr]

/-- A lane's place in the idle queue and its age, 0 for a lane that is not there. -/
theorem idle_absent {s : State} {l : LaneNo} (h : ∀ e ∈ s.idleQueue, e.lane ≠ l) :
    placeIn l (s.idleQueue.map IdleEntry.lane) = 0 ∧ s.idleAgeField l = [0, 0] := by
  refine ⟨placeIn_absent fun hl => ?_, ?_⟩
  · obtain ⟨e, he, hel⟩ := List.mem_map.1 hl
    exact h e he hel
  · have unfound : (s.idleQueue.find? fun e => e.lane == l) = none := List.find?_eq_none.2 (by simpa using h)
    rw [State.idleAgeField, unfound]
    rfl

theorem idle_first {s : State} {l : LaneNo} {before after : List IdleEntry} {e : IdleEntry}
    (hq : s.idleQueue = before ++ e :: after) (he : e.lane = l) (hb : ∀ x ∈ before, x.lane ≠ l) :
    placeIn l (s.idleQueue.map IdleEntry.lane) = before.length + 1 ∧ s.idleAgeField l = ageField e.age := by
  refine ⟨?_, ?_⟩
  · have absent : l ∉ before.map IdleEntry.lane := by simpa using hb
    rw [hq, List.map_append, List.map_cons, he, placeIn_first absent, List.length_map]
  · have unfound : (before.find? fun e => e.lane == l) = none := List.find?_eq_none.2 (by simpa using hb)
    have found : (s.idleQueue.find? fun e => e.lane == l) = some e := by
      rw [hq, List.find?_append, unfound]
      simp [he]
    rw [State.idleAgeField, found]

/-- The place of a lane in the filling order, in the two cases of the statement. -/
theorem filling_place {s : State} {l : LaneNo} {place : Nat}
    (h : (l ∉ s.fillingOrder ∧ place = 0) ∨
      ∃ before after, s.fillingOrder = before ++ l :: after ∧ l ∉ before ∧ place = before.length + 1) :
    placeIn l s.fillingOrder = place := by
  rcases h with ⟨hl, rfl⟩ | ⟨before, after, hq, hl, rfl⟩
  · exact placeIn_absent hl
  · rw [hq, placeIn_first hl]

theorem secondsOf_eq (ms : Nat) :
    secondsOf ms = ms / 1000 + (if ms % 1000 ≠ 0 ∧ Config.startedSecondCounts ms = true then 1 else 0) := by
  by_cases h : ms % 1000 = 0 <;> simp [secondsOf, h]

/-- SAW-READY as it is read. -/
theorem flagByte_sawReady (s : State) (l : LaneNo) :
    flagByte (s.sawReady l) = if s.gantry.dryRun = true ∨ s.inputs.sawReady.get l = true then 1 else 0 := by
  simp [flagByte, State.sawReady]

/-- BOOK-READY as it is read, outside reset (R76). -/
theorem flagByte_bookReady {s : State} (h : s.resetHeld = false) (l : LaneNo) :
    flagByte (s.bookReady l) =
      match (s.lane l).state with | .handed _ => if s.gantry.dryRun then 0 else 1 | _ => 0 := by
  unfold State.bookReady
  cases (s.lane l).state with
  | handed bk => cases hd : s.gantry.dryRun <;> simp [flagByte, h]
  | parked => rfl
  | idle => rfl
  | filling bk => rfl

theorem bookFields_eq (bk : Option Book) :
    bookFields bk = match bk with
      | some bk => [byteOf bk.key.type] ++ le16 bk.key.pattern ++ [byteOf bk.key.rotation.degrees,
          byteOf bk.tags.length] ++ le16 bk.height ++ bk.tags.flatMap le16
      | none => List.replicate 7 0 := by
  cases bk <;> rfl

/-! ## The entry that carries a tag (R22) -/

/-- The list with slots and positions, entry by entry (R21). -/
theorem located_getElem? (s : State) (i : Nat) :
    s.located[i]? = s.store.jobs.entries[i]?.map fun j =>
      { slot := (s.store.jobs.start + i) % s.jobSlots, pos := i + 1, job := j } := by
  simp only [State.located, locateFrom_getElem?, Nat.zero_add]

theorem located_eq_some {s : State} {i : Nat} {e : Located} :
    s.located[i]? = some e ↔ s.store.jobs.entries[i]? = some e.job ∧ e.pos = i + 1 ∧
      e.slot = (s.store.jobs.start + i) % s.store.partition.jobSlots := by
  rw [located_getElem?]
  cases s.store.jobs.entries[i]? with
  | none => simp
  | some j =>
    obtain ⟨slot, pos, job⟩ := e
    simp only [Option.map_some, Option.some.injEq, Located.mk.injEq]
    constructor
    · rintro ⟨rfl, rfl, rfl⟩
      exact ⟨rfl, rfl, rfl⟩
    · rintro ⟨rfl, rfl, rfl⟩
      exact ⟨rfl, rfl, rfl⟩

theorem findTag_eq_none (s : State) (tag : Nat) :
    s.findTag tag = none ↔ ∀ j ∈ s.store.jobs.entries, j.tag ≠ tag := by
  rw [← locateFrom_jobs s.jobSlots s.store.jobs.start 0 s.store.jobs.entries]
  simp [State.findTag, State.located]

theorem findTag_eq_some (s : State) (tag : Nat) (e : Located) :
    s.findTag tag = some e ↔ ∃ i, s.store.jobs.entries[i]? = some e.job ∧ e.job.tag = tag ∧ e.pos = i + 1 ∧
      e.slot = (s.store.jobs.start + i) % s.store.partition.jobSlots ∧
      ∀ k < i, ∀ j, s.store.jobs.entries[k]? = some j → j.tag ≠ tag := by
  have before (k : Nat) : (∀ x, s.located[k]? = some x → x.job.tag ≠ tag) ↔
      ∀ j, s.store.jobs.entries[k]? = some j → j.tag ≠ tag := by
    rw [located_getElem?]
    cases s.store.jobs.entries[k]? <;> simp
  simp only [State.findTag, List.find?_eq_some_iff_getElem, beq_iff_eq]
  constructor
  · rintro ⟨ht, i, hi, he, hk⟩
    obtain ⟨hj, hp, hs⟩ := located_eq_some.1 (List.getElem?_eq_some_iff.2 ⟨hi, he⟩)
    refine ⟨i, hj, ht, hp, hs, fun k hki => (before k).1 fun x hx => ?_⟩
    obtain ⟨hkl, rfl⟩ := List.getElem?_eq_some_iff.1 hx
    simpa using hk k hki
  · rintro ⟨i, hj, ht, hp, hs, hk⟩
    obtain ⟨hi, he⟩ := List.getElem?_eq_some_iff.1 (located_eq_some.2 ⟨hj, hp, hs⟩)
    refine ⟨ht, i, hi, he, fun k hki => ?_⟩
    simpa using (before k).2 (hk k hki) _ (List.getElem?_eq_getElem (Nat.lt_trans hki hi))

/-- The window flag of a listed entry (R37, R38). -/
theorem inWindow_of_listed {s : State} {i : Nat} {j : Job} (h : s.store.jobs.entries[i]? = some j) :
    flagByte (s.inWindow (i + 1)) = if i + 1 ≤ s.modes.window then 1 else 0 := by
  have listed : i < s.entryCount := (List.getElem?_eq_some_iff.1 h).1
  simp [State.inWindow, flagByte, Nat.succ_le_of_lt listed]

/-- Settles O24: each reply is the record's report, its fields spelled by the lemmas above. -/
theorem recordsAreReported : Obligations.RecordsAreReported := by
  unfold Obligations.RecordsAreReported
  intro b s h
  refine ⟨fun hb => ?_, fun hb hl => ?_, fun l seconds laneLeft bookLeft idlePlace fillingPlace age hb hl hsec hlane hbook
    hidle hfill => ?_, fun hb ht => ?_, fun pos j hb hj ht hfirst => ?_⟩
  · have hlen : b.payload.length = RequestKind.readStacks.payloadLength := congrArg List.length hb
    refine exec_reading h .readStacks b hlen
      (congrArg (fun record => reading (allStacks.flatMap record) s.quiet) (funext fun k => ?_))
    rw [State.stackRecord, flagByte_inWork]
    rfl
  · refine exec_refused h .readLane b hb ?_
    simp [answerOf, answerReadLane, frameOfRequest, laneOf_eq_none.2 hl]
  · have answer : answerReadLane (frameOfRequest .readLane b) s.quiet = reading (s.quiet.laneReport l) s.quiet := by
      simp [answerReadLane, frameOfRequest, hl]
    obtain rfl : seconds = secondsOf := funext fun ms => (hsec ms).trans (secondsOf_eq ms).symm
    have idle : placeIn l (s.idleQueue.map IdleEntry.lane) = idlePlace ∧ s.idleAgeField l = age := by
      rcases hidle with ⟨hq, rfl, rfl⟩ | ⟨before, e, after, hq, he, hb, rfl, rfl⟩
      · exact idle_absent hq
      · exact idle_first hq he hb
    have lane : secondsLeft (s.lane l).laneTimer = laneLeft := by
      rw [hlane]
      cases (s.lane l).laneTimer <;> rfl
    have book : secondsLeft (s.lane l).bookTimer = bookLeft := by
      rw [hbook]
      cases (s.lane l).bookTimer <;> rfl
    have report : s.quiet.laneReport l = s.laneReport l := rfl
    rw [report, State.laneReport, lane, book, idle.1, idle.2, filling_place hfill, flagByte_sawReady,
      flagByte_bookReady h.1.1, bookFields_eq] at answer
    exact exec_reading h .readLane b hb answer
  · refine exec_refused h .readJob b hb ?_
    simp [answerOf, answerReadJob, frameOfRequest, (findTag_eq_none s.quiet _).2 ht]
  · have found : s.quiet.findTag (u16 b.payload 0) =
        some { slot := (s.store.jobs.start + pos) % s.store.partition.jobSlots, pos := pos + 1, job := j } :=
      (findTag_eq_some s.quiet _ _).2 ⟨pos, hj, ht, rfl, rfl, fun k hk i hi => ht ▸ hfirst k hk i hi⟩
    refine exec_reading h .readJob b hb ?_
    simp only [answerOf, answerReadJob, frameOfRequest, found, inWindow_of_listed (s := s.quiet) hj, Job.fields_eq]
    rfl

end Sys2Proof.Machine
end

section
/-! The requests on the job list: ENQUEUE JOB, AMEND JOB and CANCEL JOB (R18, R22 to R30, R99, R100). -/

namespace Sys2Proof.Machine

/-! ## ENQUEUE JOB -/

/-- What the payload of an accepted ENQUEUE JOB holds (R18, R23 check 1). -/
theorem newJob_reads {p : List Byte} {j : Job} (h : newJob p = some j) :
    u8 p 3 = j.stack.code ∧ u8 p 4 = jobLaneCode j.lane ∧ u8 p 5 = j.rotation.degrees ∧
      u8 p 8 = (if j.urgent then 1 else 0) ∧ 1 ≤ u16 p 0 ∧ u16 p 6 ≤ 4095 ∧ 1 ≤ u16 p 9 ∧ u16 p 9 ≤ 999 := by
  unfold newJob at h
  split at h
  · next k l r urgent hk hl hr hu =>
    split at h
    · next range =>
      cases h
      exact ⟨stackOf_eq_some.1 hk, jobLaneOf_eq_some.1 hl, rotationOf_eq_some.1 hr, boolOf_eq_some.1 hu, range⟩
    · cases h
  · cases h

/-- A flag of a payload is 0 or 1. -/
theorem flag_le_one {n : Nat} {v : Bool} (h : n = if v then 1 else 0) : n ≤ 1 := by
  cases v <;> simp_all

theorem newJob_out_of_range {p : List Byte}
    (h : u16 p 0 = 0 ∨ (∀ k : StackNo, u8 p 3 ≠ k.code) ∨ (∀ l, u8 p 4 ≠ jobLaneCode l) ∨
      (∀ r : Rotation, u8 p 5 ≠ r.degrees) ∨ 4095 < u16 p 6 ∨ 1 < u8 p 8 ∨ u16 p 9 = 0 ∨ 999 < u16 p 9) :
    newJob p = none := by
  refine Option.eq_none_iff_forall_not_mem.2 fun j hj => ?_
  obtain ⟨hk, hl, hr, hu, range⟩ := newJob_reads hj
  have flag := flag_le_one hu
  rcases h with h | h | h | h | h
  · omega
  · exact h _ hk
  · exact h _ hl
  · exact h _ hr
  · omega

theorem typeDefined_eq_false (s : State) (n : Nat) :
    s.typeDefined n = false ↔ s.store.partition.typeSlots ≤ n ∨ lookupType s.store.types n = none := by
  have spelled : s.typeDefined n = false ↔ s.typeSlots ≤ n ∨ lookupType s.store.types n = none := by
    simp [State.typeDefined, imp_iff_not_or]
  exact spelled

/-- A tag is in use (R23 check 3). -/
theorem findTag_isSome (s : State) (tag : Nat) :
    (s.findTag tag).isSome = true ↔ ∃ j ∈ s.store.jobs.entries, j.tag = tag := by
  rw [← not_iff_not, Bool.not_eq_true, Option.isSome_eq_false_iff, Option.isNone_iff_eq_none, findTag_eq_none]
  simp

theorem answerEnqueueJob_refused {f : Frame} (h : newJob f.body.payload = none) (s : State) :
    answerEnqueueJob f s = refuse .outOfRange s := by
  rw [answerEnqueueJob, h]

/-- Settles O25: the fields are read back by `newJob_reads`, and the checks run in their order. -/
theorem enqueueAppendsTheJob : Obligations.EnqueueAppendsTheJob := by
  unfold Obligations.EnqueueAppendsTheJob
  intro b s h hb
  refine ⟨fun hr => exec_refused h .enqueueJob b hb (answerEnqueueJob_refused (newJob_out_of_range hr) _),
    fun k l r urgent htag hk hl hr hpat hu hcount hmax => ?_⟩
  have range : 1 ≤ u16 b.payload 0 ∧ u16 b.payload 6 ≤ 4095 ∧ 1 ≤ u16 b.payload 9 ∧ u16 b.payload 9 ≤ 999 :=
    ⟨Nat.one_le_iff_ne_zero.2 htag, hpat, Nat.one_le_iff_ne_zero.2 hcount, hmax⟩
  have job : newJob b.payload = some
      { tag := u16 b.payload 0, type := u8 b.payload 2, stack := k, lane := l, rotation := r, pattern := u16 b.payload 6,
        urgent := urgent, count := u16 b.payload 9, placed := 0, rejected := 0, lost := 0, clamped := 0, state := .queued,
        reason := none, cancelPending := false, inFlight := false } := by
    rw [newJob, stackOf_eq_some.2 hk, jobLaneOf_eq_some.2 hl, rotationOf_eq_some.2 hr, boolOf_eq_some.2 hu]
    exact if_pos range
  split
  · next undefined =>
    have hd := (typeDefined_eq_false s.quiet _).2 undefined
    refine exec_refused h .enqueueJob b hb ?_
    simp [answerOf, answerEnqueueJob, frameOfRequest, job, hd]
  next defined =>
  have hd : s.quiet.typeDefined (u8 b.payload 2) = true := by
    simpa using mt (typeDefined_eq_false s.quiet _).1 defined
  split
  · next used =>
    have ht := (findTag_isSome s.quiet _).2 used
    refine exec_refused h .enqueueJob b hb ?_
    simp [answerOf, answerEnqueueJob, frameOfRequest, job, hd, ht]
  next fresh =>
  have ht : (s.quiet.findTag (u16 b.payload 0)).isSome = false := by
    simpa using mt (findTag_isSome s.quiet _).1 fresh
  split
  · next full =>
    have hf : s.quiet.entryCount = s.quiet.jobSlots := full
    refine exec_refused h .enqueueJob b hb ?_
    simp [answerOf, answerEnqueueJob, frameOfRequest, job, hd, ht, hf]
  next room =>
  have hf : ¬ s.quiet.entryCount = s.quiet.jobSlots := room
  have stack : s.quiet.stack k = s.stack k := rfl
  split
  · next other =>
    refine exec_refused h .enqueueJob b hb ?_
    simp [answerOf, answerEnqueueJob, frameOfRequest, job, hd, ht, hf, stack, other.1, other.2]
  · next same =>
    have hs : ((s.stack k).present && (s.stack k).type != u8 b.payload 2) = false := by simpa using same
    refine exec_answered h .enqueueJob b hb (a := { result := .ok, payload := _, state := _, wake := true, later := false })
      ?_ rfl nofun
    simp only [answerOf, answerEnqueueJob, frameOfRequest, job, hd, ht, if_neg hf, stack, hs, Bool.not_true,
      Bool.false_eq_true, if_false]
    rfl

/-! ## The transfer of a job entry -/

theorem transferFor_eq_some {s : State} {slot tag : Nat} {t : Transfer} :
    s.transferFor slot tag = some t ↔ s.transfer = some t ∧ t.jobTag = tag ∧ t.jobSlot = slot := by
  simp only [State.transferFor, Option.filter_eq_some_iff, Bool.and_eq_true, beq_iff_eq, and_comm]

theorem transferFor_isSome (s : State) (slot tag : Nat) :
    (s.transferFor slot tag).isSome = true ↔ ∃ t, s.transfer = some t ∧ t.jobTag = tag ∧ t.jobSlot = slot := by
  simp only [Option.isSome_iff_exists, transferFor_eq_some]

/-- A panel of the entry's job is committed: its transfer is in LIFT to RISE or in the put-down (R27). -/
theorem committed_iff (s : State) (slot tag : Nat) :
    s.committed slot tag = true ↔ ∃ t, s.transfer = some t ∧ t.jobTag = tag ∧ t.jobSlot = slot ∧
      t.phase ∈ [Phase.lift, .toLane, .lower, .release, .rise, .toReject, .rejectLower, .rejectRelease, .rejectRise] := by
  have commits (p : Phase) : p.commits = true ↔
      p ∈ [Phase.lift, .toLane, .lower, .release, .rise, .toReject, .rejectLower, .rejectRelease, .rejectRise] := by
    cases p <;> decide
  simp only [State.committed, Option.any_eq_true, transferFor_eq_some, commits, and_assoc]

/-! ## AMEND JOB -/

/-- What the payload of an AMEND JOB in range holds (R25 check 1). -/
theorem amendmentOf_reads {p : List Byte} {a : Amendment} (h : amendmentOf p = some a) :
    u8 p 4 = jobLaneCode a.lane ∧ u8 p 5 = (if a.urgent then 1 else 0) ∧ 1 ≤ u16 p 0 ∧ 1 ≤ u16 p 2 ∧ u16 p 2 ≤ 999 := by
  unfold amendmentOf at h
  split at h
  · next l urgent hl hu =>
    split at h
    · next range =>
      cases h
      exact ⟨jobLaneOf_eq_some.1 hl, boolOf_eq_some.1 hu, range⟩
    · cases h
  · cases h

theorem amendmentOf_out_of_range {p : List Byte}
    (h : u16 p 0 = 0 ∨ u16 p 2 = 0 ∨ 999 < u16 p 2 ∨ (∀ l, u8 p 4 ≠ jobLaneCode l) ∨ 1 < u8 p 5) :
    amendmentOf p = none := by
  refine Option.eq_none_iff_forall_not_mem.2 fun a ha => ?_
  obtain ⟨hl, hu, range⟩ := amendmentOf_reads ha
  have flag := flag_le_one hu
  rcases h with h | h | h | h | h
  · omega
  · omega
  · omega
  · exact h _ hl
  · omega

/-- Checks 3 to 6 of R25 refuse the amendment of an entry. -/
def State.refusesAmendment (s : State) (e : Located) (a : Amendment) : Prop :=
  e.job.live = false ∨ e.job.cancelPending = true ∨
    (a.lane ≠ e.job.lane ∧ (e.job.state = .active ∨
      ∃ t, s.transfer = some t ∧ t.jobTag = e.job.tag ∧ t.jobSlot = e.slot)) ∨
    a.count < e.job.placed + (if e.job.inFlight then 1 else 0)

theorem answerAmendJob_refused {f : Frame} {s : State} {a : Amendment} {e : Located}
    (ha : amendmentOf f.body.payload = some a) (he : s.findTag a.tag = some e) (h : s.refusesAmendment e a) :
    answerAmendJob f s = refuse .jobState s := by
  simp only [answerAmendJob, ha, he]
  split
  · rfl
  split
  · rfl
  split
  · rfl
  split
  · rfl
  next live pending lane count =>
  exfalso
  simp only [Bool.and_eq_true, Bool.or_eq_true, bne_iff_ne, beq_iff_eq, transferFor_isSome] at lane
  rcases h with h | h | h | h
  · exact live (by simp [h])
  · exact pending h
  · exact lane h
  · exact count h

theorem answerAmendJob_accepted {f : Frame} {s : State} {a : Amendment} {e : Located}
    (ha : amendmentOf f.body.payload = some a) (he : s.findTag a.tag = some e) (h : ¬ s.refusesAmendment e a) :
    answerAmendJob f s =
      { result := .ok, payload := [byteOf (amendedState e.job a).code] ++ le16 a.count ++ le16 e.job.placed,
        state := s.amended e a, wake := true, later := false } := by
  simp only [State.refusesAmendment, not_or] at h
  obtain ⟨live, pending, lane, count⟩ := h
  have hl : (a.lane != e.job.lane && (e.job.state == .active || (s.transferFor e.slot e.job.tag).isSome)) = false := by
    rw [Bool.eq_false_iff]
    simpa only [ne_eq, Bool.and_eq_true, Bool.or_eq_true, bne_iff_ne, beq_iff_eq, transferFor_isSome] using lane
  have hc : ¬ a.count < e.job.supplied := count
  simp [answerAmendJob, ha, he, live, pending, hl, hc]

/-- Settles O26: `findTag` is its characterisation, the checks are `State.refusesAmendment`, and the amended job completes or
goes on. -/
theorem amendChangesALiveJob : Obligations.AmendChangesALiveJob := by
  unfold Obligations.AmendChangesALiveJob
  refine ⟨fun s tag => ⟨findTag_eq_none s tag, findTag_eq_some s tag⟩, fun b s h hb => ⟨fun hr => ?_, ?_⟩⟩
  · refine exec_refused h .amendJob b hb ?_
    simp [answerOf, answerAmendJob, frameOfRequest, amendmentOf_out_of_range hr]
  intro l urgent htag hcount hmax hl hu
  have range : 1 ≤ u16 b.payload 0 ∧ 1 ≤ u16 b.payload 2 ∧ u16 b.payload 2 ≤ 999 :=
    ⟨Nat.one_le_iff_ne_zero.2 htag, Nat.one_le_iff_ne_zero.2 hcount, hmax⟩
  have reads : amendmentOf b.payload =
      some { tag := u16 b.payload 0, count := u16 b.payload 2, lane := l, urgent := urgent } := by
    rw [amendmentOf, jobLaneOf_eq_some.2 hl, boolOf_eq_some.2 hu]
    exact if_pos range
  refine ⟨fun hf => ?_, fun e he => ?_⟩
  · have unknown : s.quiet.findTag (u16 b.payload 0) = none := hf
    refine exec_refused h .amendJob b hb ?_
    simp [answerOf, answerAmendJob, frameOfRequest, reads, unknown]
  by_cases refused : s.quiet.refusesAmendment e
      { tag := u16 b.payload 0, count := u16 b.payload 2, lane := l, urgent := urgent }
  · refine Eq.trans ?_ (congrArg Host.Outcome.next (if_pos refused).symm)
    exact exec_refused h .amendJob b hb
      (answerAmendJob_refused (s := s.quiet) (f := frameOfRequest .amendJob b) reads he refused)
  refine Eq.trans ?_ (congrArg Host.Outcome.next (if_neg refused).symm)
  have answer := answerAmendJob_accepted (s := s.quiet) (f := frameOfRequest .amendJob b) reads he refused
  split
  · next complete =>
    have hc : (u16 b.payload 2 == e.job.placed && !e.job.inFlight) = true := by simpa using complete
    simp only [amendedState, State.amended, hc, if_true] at answer
    exact exec_answered h .amendJob b hb answer rfl nofun
  · next more =>
    have hc : (u16 b.payload 2 == e.job.placed && !e.job.inFlight) = false := by
      rw [Bool.eq_false_iff]
      simpa using more
    simp only [amendedState, State.amended, hc, Bool.false_eq_true, if_false] at answer
    exact exec_answered h .amendJob b hb answer rfl nofun

/-! ## CANCEL JOB -/

/-- Settles O27: the rows of R28 and R29 one after the other, a committed panel by `committed_iff`. -/
theorem cancelNowOrDeferred : Obligations.CancelNowOrDeferred := by
  unfold Obligations.CancelNowOrDeferred
  intro b s h hb
  refine ⟨fun hf => ?_, fun e he => ?_⟩
  · have unknown : s.quiet.findTag (u16 b.payload 0) = none := hf
    refine exec_refused h .cancelJob b hb ?_
    simp [answerOf, answerCancelJob, frameOfRequest, unknown]
  have found : s.quiet.findTag (u16 b.payload 0) = some e := he
  split
  · next finished =>
    refine exec_refused h .cancelJob b hb ?_
    simp [answerOf, answerCancelJob, frameOfRequest, found, finished]
  next live =>
  split
  · next pending =>
    refine exec_answered h .cancelJob b hb (a := { defer s.quiet with wake := true }) ?_ rfl fun _ => rfl
    simp [answerOf, answerCancelJob, frameOfRequest, found, live, pending]
  next fresh =>
  split
  · next committed =>
    have hc : s.quiet.committed e.slot e.job.tag = true := (committed_iff s _ _).2 committed
    refine exec_answered h .cancelJob b hb
      (a := { defer (s.quiet.modifyJob e.slot fun j => { j with cancelPending := true }) with wake := true }) ?_ rfl
      fun _ => rfl
    simp [answerOf, answerCancelJob, frameOfRequest, found, live, fresh, hc]
  · next free =>
    have hc : ¬ s.quiet.committed e.slot e.job.tag = true := mt (committed_iff s _ _).1 free
    refine exec_answered h .cancelJob b hb (a := acceptWake (s.quiet.cancelled e)) ?_ rfl fun _ => rfl
    simp [answerOf, answerCancelJob, frameOfRequest, found, live, fresh, hc]

end Sys2Proof.Machine
end

section
/-! Finished jobs, and the boards counted on their entries (R19, R31 to R36, R65, R81, R128, R147, R178). -/

namespace Sys2Proof.Machine

/-! ## A job that finishes (R19, R35, R36, R178) -/

theorem live_iff (j : Job) : j.live = true ↔ j.state = .queued ∨ j.state = .active := by
  cases h : j.state <;> simp [Job.live, h]

theorem modifyJob_of_index {s : State} {slot k : Nat} {j : Job} (hk : s.indexOfSlot slot = some k)
    (hj : s.store.jobs.entries[k]? = some j) (f : Job → Job) :
    s.modifyJob slot f = s.setEntries (s.store.jobs.entries.set k (f j)) := by
  simp only [State.modifyJob, hk, List.modify_eq_set_getElem?, hj]
  rfl

/-- The FIFO after a push: one notice more, or job-notice-lost when it holds 16. -/
theorem pushNotice_eq (s : State) (n : JobNotice) :
    s.pushNotice n = { s with notices := if s.notices.fifo.length < 16 then { s.notices with fifo := s.notices.fifo ++ [n] }
      else { s.notices with lost := true } } := by
  unfold State.pushNotice fifoDepth
  split <;> rfl

/-- The state after a job finishes: its entry replaced, the finished head retired, the notice pushed. -/
theorem finishJob_of_index {s : State} {slot k : Nat} {j : Job} (hk : s.indexOfSlot slot = some k)
    (hj : s.store.jobs.entries[k]? = some j) (st : JobState) (r : Option Reason) {es : List Job}
    (hes : s.store.jobs.entries.set k (j.finish st r) = es) :
    s.finishJob slot st r = { s with
      store := { s.store with jobs :=
        { start := (s.store.jobs.start + finishedHead es) % s.jobSlots, entries := es.drop (finishedHead es) } }
      notices := if s.notices.fifo.length < 16 then
          { s.notices with fifo := s.notices.fifo ++ [(j.finish st r).notice] }
        else { s.notices with lost := true } } := by
  simp only [State.finishJob, jobAt_eq_some.2 ⟨k, hk, hj⟩, modifyJob_of_index hk hj, hes, pushNotice_eq]
  rfl

/-- Settles O28: the entry is replaced, its notice pushed, and the finished head is what `take` cuts off. -/
theorem finishingNotifiesAndRetires : Obligations.FinishingNotifiesAndRetires := by
  unfold Obligations.FinishingNotifiesAndRetires
  refine ⟨live_iff, fun s slot j st r _ hj => ?_⟩
  obtain ⟨k, hk, hkj⟩ := jobAt_eq_some.1 hj
  generalize hes : s.store.jobs.entries.set k (j.finish st r) = es
  refine ⟨_, _, finishJob_of_index hk hkj st r hes, rfl, rfl,
    ⟨k, es.take (finishedHead es), hk, hes.trans (List.take_append_drop _ _).symm, dropped_finished es, ?_⟩,
    head_after_drop es⟩
  rw [List.length_take, Nat.min_eq_left (finishedHead_le es)]
  rfl

/-! ## The entry in a slot (R21, R33) -/

/-- An entry is in a slot exactly when the slot is its place from the start pointer on. -/
theorem jobAt_iff {s : State} (form : s.store.wf = true) (slot : Nat) (j : Job) :
    s.jobAt slot = some j ↔ ∃ i, s.store.jobs.entries[i]? = some j ∧
      slot = (s.store.jobs.start + i) % s.store.partition.jobSlots := by
  obtain ⟨-, -, -, hstart, hlen⟩ := (wf_iff _).1 form
  rw [jobAt_eq_some]
  constructor
  · rintro ⟨i, hi, hj⟩
    exact ⟨i, hj, (slot_of_index hstart hi).1⟩
  · rintro ⟨i, hj, rfl⟩
    exact ⟨i, index_of_slot hstart (List.getElem?_eq_some_iff.1 hj).1 hlen, hj⟩

/-- A change of the entry in a slot changes that entry and no other. -/
theorem modifyJob_getElem? {s : State} (form : s.store.wf = true) (slot : Nat) (f : Job → Job) (i : Nat) :
    (s.modifyJob slot f).store.jobs.entries[i]? =
      if slot = (s.store.jobs.start + i) % s.store.partition.jobSlots then s.store.jobs.entries[i]?.map f
      else s.store.jobs.entries[i]? := by
  obtain ⟨-, -, -, hstart, hlen⟩ := (wf_iff _).1 form
  cases hi : s.store.jobs.entries[i]? with
  | none =>
    have out : s.store.jobs.entries.length ≤ i := List.getElem?_eq_none_iff.1 hi
    have out' : (s.modifyJob slot f).store.jobs.entries[i]? = none := by
      refine List.getElem?_eq_none ?_
      unfold State.modifyJob
      split
      · exact out
      · simpa using out
    simp [out']
  | some j =>
    have listed : i < s.entryCount := (List.getElem?_eq_some_iff.1 hi).1
    have there := index_of_slot hstart listed hlen
    split
    · next h =>
      subst h
      have found : s.indexOfSlot ((s.store.jobs.start + i) % s.store.partition.jobSlots) = some i := there
      rw [modifyJob_of_index found hi]
      exact List.getElem?_set_self listed
    · next h =>
      unfold State.modifyJob
      split
      · exact hi
      · next k hk =>
        have other : k ≠ i := fun e => h (e ▸ (slot_of_index hstart hk).1)
        simp [State.setEntries, other, hi]

theorem holding_iff (s : State) : s.holding = true ↔ ∃ t, s.transfer = some t ∧ t.held = true := by
  simp [State.holding, Option.any_eq_true]

/-- The record's job is the entry in the record's slot, if it carries the record's tag. -/
theorem recordJob_eq_some {s : State} {j : Job} :
    s.recordJob = some j ↔ ∃ t, s.transfer = some t ∧ s.jobAt t.jobSlot = some j ∧ j.tag = t.jobTag := by
  simp [State.recordJob, Option.bind_eq_some_iff, Option.filter_eq_some_iff]

theorem onRecordJob_of_none {s : State} (h : s.recordJob = none) (f : Job → Job) : s.onRecordJob f = s := by
  unfold State.onRecordJob
  rw [h]
  split <;> simp_all

theorem onRecordJob_of_some {s : State} {t : Transfer} {j : Job} (ht : s.transfer = some t)
    (hj : s.recordJob = some j) (f : Job → Job) : s.onRecordJob f = s.modifyJob t.jobSlot f := by
  rw [State.onRecordJob, ht, hj]

/-! ## The release settle counter (R128, R147) -/

theorem exec_releaseSettleExpiry {s : State} (h : s.resetHeld = false) :
    exec .releaseSettleExpiry s = .next s.quiet.releaseSettles :=
  take_running h _

theorem runs_iff (c : Counter) : c.runs = true ↔ ∃ n, c = .running n := by
  cases c <;> simp [Counter.runs]

theorem releaseSettles_release {s : State} {t : Transfer} {n : Nat} (ht : s.transfer = some t)
    (hg : s.gantry.state = .cycling) (hp : t.phase = .release) (hc : s.releaseCounter = .running n) :
    s.releaseSettles = s.releaseExpiry t := by
  simp [State.releaseSettles, hg, ht, hp, hc, Counter.runs]

theorem releaseSettles_reject {s : State} {t : Transfer} {n : Nat} (ht : s.transfer = some t)
    (hg : s.gantry.state = .aborting) (hp : t.phase = .rejectRelease) (hc : s.releaseCounter = .running n) :
    s.releaseSettles = s.rejectExpiry := by
  simp [State.releaseSettles, hg, ht, hp, hc, Counter.runs]

/-- The counter's expiry is no event while it does not run, or outside the two phases that wait for it. -/
theorem releaseSettles_idle {s : State} {t : Transfer} (ht : s.transfer = some t)
    (h : (∀ n, s.releaseCounter ≠ .running n) ∨ (s.gantry.state = .cycling ∧ t.phase ≠ .release) ∨
      (s.gantry.state = .aborting ∧ t.phase ≠ .rejectRelease) ∨
      (s.gantry.state ≠ .cycling ∧ s.gantry.state ≠ .aborting)) : s.releaseSettles = s := by
  have waits (ph : Phase) (h : (∀ n, s.releaseCounter ≠ .running n) ∨ t.phase ≠ ph) :
      ¬ (t.phase = ph ∧ s.releaseCounter.runs = true) := by
    rintro ⟨hp, hr⟩
    obtain ⟨n, hn⟩ := (runs_iff _).1 hr
    exact h.elim (fun h => h n hn) fun h => h hp
  unfold State.releaseSettles
  rw [ht]
  split
  · next u hg hu =>
    cases hu
    refine if_neg (waits .release ?_)
    simp_all
  · next u hg hu =>
    cases hu
    refine if_neg (waits .rejectRelease ?_)
    simp_all
  · rfl

/-! ## The board counted and placed (R31, R65, R81) -/

theorem countPlaced_of_none {s : State} (h : s.recordJob = none) (t : Transfer) : s.countPlaced t = s := by
  rw [State.countPlaced, h]

theorem countPlaced_of_some {s : State} {j : Job} (h : s.recordJob = some j) (t : Transfer) :
    s.countPlaced t =
      if j.live = true ∧ j.placed + 1 = j.count then
        (s.modifyJob t.jobSlot fun j => j.counted t.clampedAny).finishJob t.jobSlot .complete none
      else s.modifyJob t.jobSlot fun j => j.counted t.clampedAny := by
  simp only [State.countPlaced, h, Bool.and_eq_true, beq_iff_eq]

/-- Counting a board changes the job list and the notices only, and no type entry. -/
theorem countPlaced_frame (s : State) (t : Transfer) :
    ∃ store notices, s.countPlaced t = { s with store := store, notices := notices } ∧ store.types = s.store.types := by
  cases h : s.recordJob with
  | none => exact ⟨s.store, s.notices, countPlaced_of_none h t, rfl⟩
  | some j =>
    rw [countPlaced_of_some h]
    split
    · rw [finishJob_frame, modifyJob_frame]
      refine ⟨_, _, rfl, ?_⟩
      rw [finishJob_types]
      exact modifyJob_types s _ _
    · exact ⟨_, s.notices, modifyJob_frame s _ _, modifyJob_types s _ _⟩

theorem place_filling {s : State} {t : Transfer} {bk : Book} (h : (s.lane t.lane).state = .filling bk) :
    s.place t = { s with lanes := s.lanes.set t.lane { s.lane t.lane with
      state := .filling { bk with tags := bk.tags ++ [t.jobTag],
                                  height := bk.height + (s.typeEntry t.key.type).thk } } } := by
  simp only [State.place, h]
  rfl

theorem place_idle {s : State} {t : Transfer} (h : (s.lane t.lane).state = .idle) :
    s.place t = { s with
      lanes := s.lanes.set t.lane { s.lane t.lane with
        state := .filling { key := t.key, tags := [t.jobTag], height := (s.typeEntry t.key.type).thk } }
      idleQueue := s.idleQueue.filter fun e => e.lane != t.lane
      fillingOrder := s.fillingOrder ++ [t.lane] } := by
  simp only [State.place, h]
  rfl

/-- The expiry in RELEASE, from the state with the board counted. -/
theorem releaseExpiry_eq {s p q : State} {t : Transfer} (hp : p = { s with blowOff := false, releaseCounter := .stopped })
    (hq : p.countPlaced t = q) : s.releaseExpiry t = ((q.place t).setPhase .rise).issueRise := by
  subst hp hq
  rfl

/-- Settles O49: the entry in a slot, the record's entry, and the two expiries, the placement by the state of the lane. -/
theorem releaseCountsTheBoard : Obligations.ReleaseCountsTheBoard := by
  unfold Obligations.ReleaseCountsTheBoard
  refine ⟨fun s form => ⟨jobAt_iff form, fun slot f => ?_⟩, fun s => ⟨holding_iff s, fun j => recordJob_eq_some,
    fun f h => onRecordJob_of_none h f, fun t j f ht hj => onRecordJob_of_some ht hj f⟩, fun s t hr ht => ?_⟩
  · refine ⟨(s.modifyJob slot f).store.jobs.entries, ?_, modifyJob_getElem? form slot f⟩
    unfold State.modifyJob
    split <;> rfl
  rw [exec_releaseSettleExpiry hr]
  refine ⟨fun n thk p q r hg hp hc hthk hstop hcount hplace => ?_, fun n hg hp hc => ?_, fun h => ?_⟩
  · have counted : p.countPlaced t = q := by
      have record : p.recordJob = s.recordJob := by subst hstop; rfl
      rcases hcount with ⟨hj, rfl⟩ | ⟨j, m, hj, rfl, rfl⟩
      · exact countPlaced_of_none (record.trans hj) t
      · exact countPlaced_of_some (record.trans hj) t
    rw [releaseSettles_release (s := s.quiet) ht hg hp hc, releaseExpiry_eq hstop counted]
    obtain ⟨store, notices, frame, types⟩ := countPlaced_frame p t
    have hq : q = { p with store := store, notices := notices } := counted.symm.trans frame
    subst hstop
    have entry : (q.typeEntry t.key.type).thk = thk := by
      rw [hthk, hq]
      exact congrArg TypeEntry.thk (typeEntry_of_types (u := { s with store := store }) types _)
    have placed : q.place t = r := by
      have lane : q.lane t.lane = s.lane t.lane := by subst hq; rfl
      rcases hplace with ⟨bk, hl, rfl⟩ | ⟨hl, rfl⟩
      · rw [place_filling (lane ▸ hl), entry, lane, hq]
        rfl
      · rw [place_idle (lane ▸ hl), entry, lane, hq]
        rfl
    have kept : r.transfer = some t ∧ r.travel = s.travel := by
      rcases hplace with ⟨bk, hl, rfl⟩ | ⟨hl, rfl⟩ <;> subst hq <;> exact ⟨ht, rfl⟩
    rw [placed, State.issueRise]
    simp only [State.setPhase, State.onTransfer, kept.1, kept.2, Option.map_some]
  · rw [releaseSettles_reject (s := s.quiet) ht hg hp hc, State.rejectExpiry]
    have store := onRecordJob_of_store (s := s) (u := { s.quiet with releaseCounter := .stopped }) rfl rfl Job.reject
    rw [onRecordJob_frame, store]
    simp only [State.setPhase, State.onTransfer, State.quiet_transfer, ht, Option.map_some]
    rfl
  · rw [releaseSettles_idle (s := s.quiet) ht h]

end Sys2Proof.Machine
end

section
/-! The contact and the grip (R31, R50, R51, R62, R120 to R126, R154 to R156). -/

namespace Sys2Proof.Machine

/-! ## The contact event (R62, R120 to R123) -/

theorem contactAccepted_iff (zc ze tol : Nat) : contactAccepted zc ze tol = true ↔ zc ≤ ze + tol ∧ ze ≤ zc + tol := by
  simp [contactAccepted]

theorem stop_onTransfer (s : State) (f : Transfer → Transfer) (axes : List Axis) :
    (s.onTransfer f).stop axes = (s.stop axes).onTransfer f := by
  cases hd : s.gantry.dryRun <;> simp only [State.stop, State.onTransfer_gantry, hd] <;> rfl

/-- Zc is stored and Z stopped (R120). -/
theorem contact_stored {s : State} {t : Transfer} (ht : s.transfer = some t) (z : Nat) :
    (s.onTransfer fun t => { t with zc := some z }).stop [.z] =
      { s.stop [.z] with transfer := some { t with zc := some z } } := by
  obtain ⟨g, hg, -⟩ := stop_frame s [.z]
  rw [stop_onTransfer, hg]
  simp only [State.onTransfer, ht, Option.map_some]

/-- Entry into GRIP: the record's phase and attempt, its valves, and the settle counter with the time of its type's class. -/
theorem enterGrip_eq {s : State} {u : Transfer} (hu : s.transfer = some u) (t : Transfer) :
    s.enterGrip t = { s with
      transfer := some { u with phase := .grip, leg := .first, attempts := 1 }
      valves := t.mask
      gripCounter := .running (s.modes.settleOf (s.typeEntry u.key.type).cls) } := by
  simp only [State.enterGrip, State.startGrip, State.setPhase, State.onTransfer, hu, Option.map_some]
  rfl

theorem contactEvent_accepted {s : State} {t : Transfer} {z : Nat} {w : SearchWindow} (ht : s.transfer = some t)
    (hw : t.window = some w) (h : z ≤ t.ze + w.tolerance ∧ t.ze ≤ z + w.tolerance) :
    s.contactEvent z = { s.stop [.z] with
      transfer := some { t with zc := some z, phase := .grip, leg := .first, attempts := 1 }
      valves := t.mask
      gripCounter := .running (s.modes.settleOf (s.typeEntry t.key.type).cls) } := by
  have accepted := (contactAccepted_iff z t.ze w.tolerance).2 h
  obtain ⟨g, hg, -⟩ := stop_frame s [.z]
  simp only [State.contactEvent, ht, contact_stored ht, State.toleranceOf, hw, accepted, if_true]
  rw [enterGrip_eq rfl, hg]
  rfl

theorem contactEvent_mismatch {s : State} {t : Transfer} {z : Nat} {w : SearchWindow} (ht : s.transfer = some t)
    (hw : t.window = some w) (h : t.ze + w.tolerance < z ∨ z + w.tolerance < t.ze) :
    s.contactEvent z = ({ s.stop [.z] with
      transfer := some { t with zc := some z }
      stackTable := s.stackTable.set t.stack { s.stack t.stack with suspect := true, suspectFlag := true } } :
      State).enterRetreat := by
  have refused : contactAccepted z t.ze w.tolerance = false := by
    rw [Bool.eq_false_iff, ne_eq, contactAccepted_iff]
    omega
  obtain ⟨g, hg, -⟩ := stop_frame s [.z]
  simp only [State.contactEvent, ht, contact_stored ht, State.toleranceOf, hw, refused, Bool.false_eq_true, if_false]
  rw [hg]
  rfl

/-! ## CONTACT_ASSERTED (R120) -/

theorem exec_contactAsserted {s : State} (h : s.resetHeld = false) (level : Bool) (z : Nat) :
    exec (.contactAsserted level z) s =
      .next (if level then ({ s.quiet with inputs := s.inputs.withContact level z } : State).contactRises z
        else { s.quiet with inputs := s.inputs.withContact level z }) := by
  show s.onLine _ _ = _
  rw [State.onLine, h]
  rfl

theorem searching_iff {s : State} {t : Transfer} (ht : s.transfer = some t) :
    s.searching = true ↔ s.gantry.state = .cycling ∧ s.gantry.dryRun = false ∧ t.phase = .search := by
  simp [State.searching, ht, and_assoc]

/-! ## The grip settle counter (R124) -/

theorem exec_gripSettleExpiry {s : State} (h : s.resetHeld = false) (level : Bool) :
    exec (.gripSettleExpiry level) s = .next (s.quiet.gripSettles level) :=
  take_running h fun s => s.gripSettles level

theorem gripSettles_grip {s : State} {t : Transfer} {n : Nat} (ht : s.transfer = some t)
    (hg : s.gantry.state = .cycling) (hp : t.phase = .grip) (hc : s.gripCounter = .running n) (level : Bool) :
    s.gripSettles level = s.gripExpiry t level := by
  simp [State.gripSettles, hg, ht, hp, hc, Counter.runs]

/-- The counter's expiry is no event while it does not run, or outside GRIP. -/
theorem gripSettles_idle {s : State} {t : Transfer} (ht : s.transfer = some t)
    (h : s.gantry.state ≠ .cycling ∨ t.phase ≠ .grip ∨ ∀ n, s.gripCounter ≠ .running n) (level : Bool) :
    s.gripSettles level = s := by
  unfold State.gripSettles
  rw [ht]
  split
  · next u hg hu =>
    cases hu
    refine if_neg ?_
    rintro ⟨hp, hr⟩
    obtain ⟨n, hn⟩ := (runs_iff _).1 hr
    rcases h with h | h | h
    · exact h hg
    · exact h hp
    · exact h n hn
  · rfl

/-- The board of a grip that succeeds: off its stack, in flight on its entry, held by the record (R31, R50, R125). -/
def State.boardTaken (s : State) (t : Transfer) : State :=
  { s with
    stackTable := s.stackTable.set t.stack (s.stack t.stack).gripped
    store := (s.onRecordJob Job.gripped).store
    transfer := some { t with held := true }
    gripCounter := .stopped }

/-- The board taken, and the target of LIFT issued (R125). -/
def State.liftIssued (s : State) (t : Transfer) : State :=
  ((s.boardTaken t).setPhase .lift).issue [goTo .z s.travel.ztravel]

theorem gripSuccess_eq_enterLift {s : State} {t : Transfer} (ht : s.transfer = some t) :
    s.gripSuccess t = (s.boardTaken t).enterLift := by
  have store := onRecordJob_of_store (s := s) (u := s.setStack t.stack (s.stack t.stack).gripped) rfl rfl Job.gripped
  simp only [State.gripSuccess]
  rw [onRecordJob_frame, store]
  simp only [State.onTransfer, State.setStack, ht, Option.map_some]
  rfl

/-- Issuing the target of LIFT changes Gantry Control only. -/
theorem liftIssued_frame (s : State) (t : Transfer) :
    ∃ g, s.liftIssued t = { (s.boardTaken t).setPhase .lift with gantry := g } ∧ Driven s g := by
  obtain ⟨g, hg, k⟩ := issue_frame ((s.boardTaken t).setPhase .lift) [goTo .z s.travel.ztravel]
  exact ⟨g, hg, k.state, k.dryRun, k.head, k.noteHomed, k.noteHalted, k.motion⟩

/-- The same from the state with the drive ports cleared, written out. -/
theorem liftIssued_quiet (s : State) (t : Transfer) :
    s.quiet.liftIssued t = ({ s.quiet with
      stackTable := s.stackTable.set t.stack (s.stack t.stack).gripped
      store := (s.onRecordJob Job.gripped).store
      transfer := some { t with held := true, phase := .lift, leg := .first }
      gripCounter := .stopped } : State).issue [goTo .z s.travel.ztravel] := by
  rw [State.liftIssued, State.boardTaken, onRecordJob_of_store (s := s) (u := s.quiet) rfl rfl]
  rfl

/-- A HOLD-LOST found asserted is taken after the target of LIFT is issued (R126). -/
theorem gripSuccess_eq {s : State} {t : Transfer} (ht : s.transfer = some t) :
    s.gripSuccess t = if s.inputs.holdLost then (s.liftIssued t).holdLost else s.liftIssued t := by
  obtain ⟨g, hg, -⟩ := liftIssued_frame s t
  have inputs : (s.liftIssued t).inputs = s.inputs := by rw [hg]; rfl
  rw [gripSuccess_eq_enterLift ht, ← inputs]
  rfl

/-! ## HOLD-LOST at the entry into LIFT (R126, R154 to R156) -/

theorem holdLost_dryRun {s : State} (h : s.gantry.dryRun = true) : s.holdLost = s := by
  simp [State.holdLost, h]

/-- Stop commands to all four axes, outside dry run. -/
theorem stopAll_eq {s : State} (h : s.gantry.dryRun = false) :
    s.stopAll = { s with gantry := { s.gantry with
      move := .still, driveOut := s.gantry.driveOut ++ [.stop .x, .stop .y, .stop .z, .stop .c] } } := by
  rw [State.stopAll, State.stop, if_neg (by simp [h])]
  rfl

/-- The first DROP of a CYCLING transfer (R154 to R156). -/
theorem holdLost_cycling {s : State} {t : Transfer} (ht : s.transfer = some t) (hh : t.held = true)
    (hg : s.gantry.state = .cycling) (hd : s.gantry.dryRun = false) (hf : s.fault.entry = none) :
    s.holdLost = { s with
      gantry := { s.gantry with
        state := .fault, move := .still,
        driveOut := s.gantry.driveOut ++ [.stop .x, .stop .y, .stop .z, .stop .c] }
      gripCounter := .stopped, releaseCounter := .stopped, blowOff := false, valves := 0
      transfer := some { t with held := false }
      store := (s.onRecordJob Job.lose).store
      fault := {
        entry := some {
          kind := .drop, found := .cycling, remembered := none, phase := some t.phase, jobTag := some t.jobTag,
          held := true, lastX := s.gantry.lastX, lastY := s.gantry.lastY, lastZ := s.gantry.lastZ, further := 0 }
        note := true, reportKind := some .drop, reportCount := 0 } } := by
  have holding : s.holding = true := (holding_iff s).2 ⟨t, ht, hh⟩
  have taken : s.holdLost = (s.firstFault .drop .cycling).boardLost := by
    simp [State.holdLost, hd, hg, Gantry.watchesHold, holding, State.takeFault, hf, Gantry.faultState]
  have entry : s.faultEntry .drop .cycling =
      { kind := .drop, found := .cycling, remembered := none, phase := some t.phase, jobTag := some t.jobTag,
        held := true, lastX := s.gantry.lastX, lastY := s.gantry.lastY, lastZ := s.gantry.lastZ, further := 0 } := by
    simp [State.faultEntry, ht, hg, holding, Gantry.remembered]
  have store := onRecordJob_of_store (s := s) (u := s.firstFault .drop .cycling) (s.firstFault_store _ _)
    (by rw [State.firstFault, stopAll_eq hd]; rfl) Job.lose
  rw [taken, State.boardLost, onRecordJob_frame, store]
  simp only [State.firstFault, entry, stopAll_eq hd, State.setGantry, State.onTransfer, ht, Option.map_some]

/-! ## The rows of R124 -/

/-- A grip succeeds when GRIP-LEVEL reads asserted, as it does in dry run (R124, R151). -/
theorem gripExpiry_success {s : State} {t : Transfer} {level : Bool} (h : level = true ∨ s.gantry.dryRun = true) :
    s.gripExpiry t level = s.gripSuccess t := by
  rw [State.gripExpiry, if_pos (by simpa using h)]

/-- The first attempt that fails starts the counter again. -/
theorem gripExpiry_retry {s : State} {t : Transfer} (ht : s.transfer = some t) (hd : s.gantry.dryRun = false)
    (h : t.attempts < 2) :
    s.gripExpiry t false = { s with
      transfer := some { t with attempts := 2 }
      gripCounter := .running (s.modes.settleOf (s.typeEntry t.key.type).cls) } := by
  rw [State.gripExpiry, if_neg (by simp [hd]), if_pos h]
  simp only [State.startGrip, State.onTransfer, ht, Option.map_some]
  rfl

/-- The second makes the stack suspect, and the transfer retreats. -/
theorem gripExpiry_fail {s : State} {t : Transfer} (hd : s.gantry.dryRun = false) (h : 2 ≤ t.attempts) :
    s.gripExpiry t false = ({ s.markSuspect t.stack with valves := 0 } : State).enterRetreat := by
  rw [State.gripExpiry, if_neg (by simp [hd]), if_neg (Nat.not_lt.2 h)]

/-- Settles O46: the contact by its window, the expiry by R124's rows, the DROP from the state with LIFT's target issued. -/
theorem contactAndGripDecideTheBoard : Obligations.ContactAndGripDecideTheBoard := by
  unfold Obligations.ContactAndGripDecideTheBoard
  refine ⟨fun m => ⟨rfl, rfl, rfl, rfl⟩, fun s t hr ht => ⟨fun z w hw => ⟨contactEvent_accepted ht hw,
    contactEvent_mismatch ht hw⟩, fun level z u hu => ?_, fun level => ?_⟩⟩
  · rw [exec_contactAsserted hr]
    have arrived : ({ s.quiet with inputs := s.inputs.withContact level z } : State) = u := hu.symm
    have record : u.transfer = some t := by rw [hu]; exact ht
    have searching : u.searching = true ↔
        s.gantry.state = .cycling ∧ s.gantry.dryRun = false ∧ t.phase = .search := by
      rw [searching_iff record, hu]
      rfl
    rw [arrived]
    refine ⟨fun h => ?_, fun w hl hg hd hp hw => ?_⟩
    · rcases h with rfl | h
      · rfl
      · have unread : ¬ u.searching = true := by
          rw [searching]
          rintro ⟨hg, hd, hp⟩
          simp [hg, hd, hp] at h
        simp only [State.contactRises, if_neg unread, ite_self]
    · subst hl
      simp only [State.contactRises, if_pos (searching.2 ⟨hg, hd, hp⟩), if_true]
      refine ⟨fun h => ?_, fun h => ?_⟩
      · rw [contactEvent_accepted record hw h, hu]
        rfl
      · rw [contactEvent_mismatch record hw h, hu]
        rfl
  · rw [exec_gripSettleExpiry hr]
    refine ⟨fun h => congrArg _ (gripSettles_idle (s := s.quiet) ht h level), fun n hg hp hc => ?_⟩
    rw [gripSettles_grip (s := s.quiet) ht hg hp hc]
    refine ⟨fun hl hh => ?_, fun v hl hd hh hf hv => ?_, fun hl hd ha => ?_, fun hl hd ha => ?_⟩
    · have lifted : s.quiet.gripSuccess t = s.quiet.liftIssued t := by
        obtain ⟨g, frame, driven⟩ := liftIssued_frame s.quiet t
        rw [gripSuccess_eq (s := s.quiet) ht]
        rcases hh with hh | hd
        · exact if_neg (by simp [hh])
        · have dry : (s.quiet.liftIssued t).gantry.dryRun = true := by rw [frame]; exact driven.dryRun.trans hd
          rw [holdLost_dryRun dry, ite_self]
      rw [gripExpiry_success (s := s.quiet) hl, lifted]
      exact congrArg _ (liftIssued_quiet s t)
    · have lifted : v = s.quiet.liftIssued t := hv.trans (liftIssued_quiet s t).symm
      have dropped : s.quiet.gripSuccess t = v.holdLost := by
        rw [lifted, gripSuccess_eq (s := s.quiet) ht]
        exact if_pos hh
      obtain ⟨g, frame, driven⟩ := liftIssued_frame s.quiet t
      have issued : v = { (s.quiet.boardTaken t).setPhase .lift with gantry := g } := lifted.trans frame
      have gantry : v.gantry = g := by rw [issued]
      rw [gripExpiry_success (s := s.quiet) (.inl hl), dropped,
        holdLost_cycling (s := v) (t := { t with held := true, phase := .lift, leg := .first })
          (by rw [issued]; rfl) rfl (by rw [gantry, driven.state]; exact hg) (by rw [gantry, driven.dryRun]; exact hd)
          (by rw [issued]; exact hf)]
      have stopped : v.gripCounter = .stopped := by rw [issued]; rfl
      rw [stopped]
      rfl
    · subst hl
      rw [gripExpiry_retry (s := s.quiet) ht hd ha]
      rfl
    · subst hl
      rw [gripExpiry_fail (s := s.quiet) hd ha]
      rfl

end Sys2Proof.Machine
end

section
/-! The scan of a selection attempt (R37, R77, R102 to R107). -/

namespace Sys2Proof.Machine

/-! ## The window and the pairs of an attempt -/

theorem window_getElem? (s : State) (i : Nat) (e : Located) :
    s.window[i]? = some e ↔ i < s.modes.window ∧ s.store.jobs.entries[i]? = some e.job ∧ e.pos = i + 1 ∧
      e.slot = (s.store.jobs.start + i) % s.store.partition.jobSlots := by
  rw [State.window, List.getElem?_take]
  split
  · next hi => simp only [hi, true_and, located_eq_some]
  · next hi => simp [hi]

/-- A lane open to selection (R77), spelled out. -/
theorem laneOpen_iff (s : State) (l : LaneNo) :
    s.laneOpen l = true ↔ ((s.lane l).state = .idle ∨ ∃ bk, (s.lane l).state = .filling bk) ∧
      (s.lane l).parkRequest = false ∧ (s.lane l).inbound = false ∧
      (s.gantry.dryRun = true ∨ s.inputs.sawReady.get l = true) := by
  have serves : (s.lane l).state.serves = true ↔ (s.lane l).state = .idle ∨ ∃ bk, (s.lane l).state = .filling bk := by
    cases (s.lane l).state <;> simp [LaneState.serves]
  simp [State.laneOpen, serves, State.sawReady, and_assoc]

theorem starved_iff (s : State) (e : IdleEntry) :
    s.starved e = true ↔ 0 < s.modes.starve ∧ s.modes.starve * 1000 ≤ e.age := by
  simp [State.starved]

theorem eligible_iff (s : State) (j : Job) :
    s.eligible j = true ↔ j.live = true ∧ j.cancelPending = false ∧
      1 ≤ j.count - (j.placed + (if j.inFlight then 1 else 0)) ∧ (s.stack j.stack).present = true ∧
      (s.stack j.stack).suspect = false ∧ 1 ≤ (s.stack j.stack).count ∧ (s.stack j.stack).type = j.type := by
  have parts : s.eligible j = true ↔ j.live = true ∧ j.cancelPending = false ∧ 1 ≤ j.remaining ∧
      (s.stack j.stack).present = true ∧ (s.stack j.stack).suspect = false ∧ 1 ≤ (s.stack j.stack).count ∧
      (s.stack j.stack).type = j.type := by
    simp [State.eligible, StackRec.supplies, and_assoc]
  exact parts

theorem accepts_iff (j : Job) (l : LaneNo) : j.accepts l = true ↔ j.lane = none ∨ j.lane = some l := by
  simp [Job.accepts]

/-- A lane and a listed job that are weighed against each other: the job is eligible and its lane is this one or ANY (R106). -/
def State.weighs (s : State) (q : LaneNo × Located) : Bool :=
  s.eligible q.2.job && q.2.job.accepts q.1

/-- The entries of the window in scan order: urgent entries first (R105). -/
def State.scanEntries (s : State) : List Located :=
  (s.window.filter fun e => e.job.urgent) ++ s.window.filter fun e => !e.job.urgent

/-- The pairs of an attempt in the order in which they are reached (R104, R105). -/
def State.scanPairs (s : State) : List (LaneNo × Located) :=
  s.laneOrder.flatMap fun l => s.scanEntries.map fun e => (l, e)

/-- A scan before its first pair. -/
def State.scanStart (s : State) : Scan :=
  { state := s, failed := false, hit := none }

/-- A scan tests its pairs one after the other. -/
theorem scan_eq_foldl (s : State) :
    s.scan = s.scanPairs.foldl (fun a q => a.test q.1 q.2.slot) s.scanStart := by
  simp only [State.scan, State.scanPairs, State.scanOrder, List.foldl_flatMap, List.foldl_map]
  rfl

theorem scanEntries_window {s : State} {e : Located} (h : e ∈ s.scanEntries) : e ∈ s.window := by
  rcases List.mem_append.1 h with h | h <;> exact (List.mem_filter.1 h).1

theorem scanPairs_mem {s : State} {q : LaneNo × Located} (h : q ∈ s.scanPairs) :
    s.laneOpen q.1 = true ∧ q.2 ∈ s.window := by
  obtain ⟨l, hl, hq⟩ := List.mem_flatMap.1 h
  obtain ⟨e, he, rfl⟩ := List.mem_map.1 hq
  exact ⟨(List.mem_filter.1 hl).2, scanEntries_window he⟩

/-! ## What a scan leaves alone -/

/-- A state that differs in entries of the job list and in notices only. -/
def SameCell (s u : State) : Prop :=
  ∃ store notices, u = { s with store := store, notices := notices } ∧ store.types = s.store.types

theorem SameCell.refl (s : State) : SameCell s s :=
  ⟨s.store, s.notices, rfl, rfl⟩

theorem SameCell.finishJob {s u : State} (h : SameCell s u) (slot : Nat) (st : JobState) (r : Option Reason) :
    SameCell s (u.finishJob slot st r) := by
  obtain ⟨store, notices, rfl, types⟩ := h
  exact ⟨_, _, finishJob_frame _ slot st r, (finishJob_types _ slot st r).trans types⟩

theorem SameCell.eligible {s u : State} (h : SameCell s u) (j : Job) : u.eligible j = s.eligible j := by
  obtain ⟨store, notices, rfl, -⟩ := h
  rfl

/-- The verdict reads the type entries, the lanes, the stacks and the settings, which a scan does not change. -/
theorem SameCell.verdict {s u : State} (h : SameCell s u) (j : Job) (l : LaneNo) : u.verdict j l = s.verdict j l := by
  obtain ⟨store, notices, rfl, types⟩ := h
  cases s
  cases store
  dsimp only at types
  subst types
  rfl

/-! ## The hit of a scan, in every state -/

/-- What a scan keeps true of its state and its hit. -/
structure Scan.Sound (s : State) (a : Scan) : Prop where
  cell : SameCell s a.state
  hit : ∀ h, a.hit = some h → s.laneOpen h.lane = true ∧ (∃ e ∈ s.window, e.slot = h.slot) ∧
    a.state.jobAt h.slot = some h.job ∧ s.eligible h.job = true ∧ h.job.accepts h.lane = true ∧
    a.state.verdict h.job h.lane = .found h.placing

theorem Scan.Sound.test {s : State} {a : Scan} (h : a.Sound s) {q : LaneNo × Located} (hq : q ∈ s.scanPairs) :
    (a.test q.1 q.2.slot).Sound s := by
  obtain ⟨hopen, hwindow⟩ := scanPairs_mem hq
  unfold Scan.test
  split
  · exact h
  · exact h
  next j hnone hj =>
  split
  · next weighed =>
    obtain ⟨eligible, accepted⟩ := Bool.and_eq_true_iff.1 weighed
    split
    · exact h
    · next p found =>
      refine ⟨h.cell, fun x hx => ?_⟩
      cases hx
      exact ⟨hopen, ⟨q.2, hwindow, rfl⟩, hj, (h.cell.eligible j) ▸ eligible, accepted, found⟩
    · refine ⟨h.cell.finishJob _ _ _, fun x hx => ?_⟩
      rw [hnone] at hx
      cases hx
  · exact h

theorem scanStart_sound (s : State) : s.scanStart.Sound s where
  cell := .refl s
  hit h hh := by simp [State.scanStart] at hh

theorem scan_sound (s : State) : s.scan.Sound s := by
  rw [scan_eq_foldl]
  exact List.foldlRecOn (motive := Scan.Sound s) _ _ (scanStart_sound s) fun a ha q hq => ha.test hq

/-! ## The entries in their slots while jobs finish -/

/-- After the finished head retires each entry behind it stands in the slot it had (R36). -/
theorem retire_jobAt {u : State} (form : u.store.wf = true) (slot : Nat) (j : Job) :
    u.retire.jobAt slot = some j ↔ ∃ i, finishedHead u.store.jobs.entries ≤ i ∧ u.store.jobs.entries[i]? = some j ∧
      slot = (u.store.jobs.start + i) % u.store.partition.jobSlots := by
  rw [jobAt_iff (wf_retire form)]
  simp only [State.retire, List.getElem?_drop, State.jobSlots, Nat.mod_add_mod, Nat.add_assoc]
  constructor
  · rintro ⟨i, hi, hs⟩
    exact ⟨_, Nat.le_add_right _ i, hi, hs⟩
  · rintro ⟨i, hle, hi, hs⟩
    obtain ⟨k, rfl⟩ := Nat.exists_eq_add_of_le hle
    exact ⟨k, hi, hs⟩

theorem jobAt_of_retired {u : State} (form : u.store.wf = true) {slot : Nat} {j : Job}
    (h : u.retire.jobAt slot = some j) : u.jobAt slot = some j := by
  obtain ⟨i, -, hi, hs⟩ := (retire_jobAt form slot j).1 h
  exact (jobAt_iff form slot j).2 ⟨i, hi, hs⟩

/-- A live entry does not retire. -/
theorem retire_keeps_live {u : State} (form : u.store.wf = true) {slot : Nat} {j : Job} (h : u.jobAt slot = some j)
    (hj : j.live = true) : u.retire.jobAt slot = some j := by
  obtain ⟨i, hi, hs⟩ := (jobAt_iff form slot j).1 h
  refine (retire_jobAt form slot j).2 ⟨i, Nat.le_of_not_lt fun hlt => ?_, hi, hs⟩
  have taken : j ∈ u.store.jobs.entries.take (finishedHead u.store.jobs.entries) :=
    List.mem_of_getElem? ((List.getElem?_take_of_lt hlt).trans hi)
  have finished := dropped_finished _ j taken
  simp [hj] at finished

theorem modifyJob_jobAt {u : State} (form : u.store.wf = true) (slot : Nat) (f : Job → Job) (other : Nat) :
    (u.modifyJob slot f).jobAt other = if other = slot then (u.jobAt other).map f else u.jobAt other := by
  have kept : (u.modifyJob slot f).store.jobs.start = u.store.jobs.start ∧
      (u.modifyJob slot f).store.partition = u.store.partition := by
    unfold State.modifyJob
    split <;> exact ⟨rfl, rfl⟩
  refine Option.ext fun j => ?_
  rw [jobAt_iff (wf_modifyJob form slot f), kept.1, kept.2]
  simp only [modifyJob_getElem? form]
  split
  · next h =>
    subst h
    simp only [Option.map_eq_some_iff, jobAt_iff form]
    constructor
    · rintro ⟨i, hi, hs⟩
      rw [if_pos hs, Option.map_eq_some_iff] at hi
      obtain ⟨x, hx, rfl⟩ := hi
      exact ⟨x, ⟨i, hx, hs⟩, rfl⟩
    · rintro ⟨x, ⟨i, hx, hs⟩, rfl⟩
      exact ⟨i, by rw [if_pos hs, hx]; rfl, hs⟩
  · next h =>
    rw [jobAt_iff form]
    refine exists_congr fun i => and_congr_left fun hs => ?_
    rw [if_neg fun e => h (hs.trans e.symm)]

/-- A job of another slot that is live stays where it is when a job finishes. -/
theorem finishJob_keeps_live {u : State} (form : u.store.wf = true) {slot other : Nat} {j : Job} (hs : other ≠ slot)
    (h : u.jobAt other = some j) (hj : j.live = true) (st : JobState) (r : Option Reason) :
    (u.finishJob slot st r).jobAt other = some j := by
  unfold State.finishJob
  split
  · exact h
  · next x _ =>
    refine retire_keeps_live (by rw [pushNotice_store]; exact wf_modifyJob form _ _) ?_ hj
    rw [jobAt_of_store (pushNotice_store _ _), modifyJob_jobAt form, if_neg hs, h]

/-- No entry comes to a slot when a job finishes, and the job that finishes is no longer live. -/
theorem finishJob_jobAt {u : State} (form : u.store.wf = true) {slot other : Nat} {st : JobState}
    (hst : st ≠ .queued ∧ st ≠ .active) {r : Option Reason} {j : Job} (h : (u.finishJob slot st r).jobAt other = some j) :
    if other = slot then j.live = false else u.jobAt other = some j := by
  unfold State.finishJob at h
  split at h
  · next none =>
    split
    · next hs =>
      subst hs
      rw [none] at h
      cases h
    · exact h
  · have there := jobAt_of_retired (by rw [pushNotice_store]; exact wf_modifyJob form _ _) h
    rw [jobAt_of_store (pushNotice_store _ _), modifyJob_jobAt form] at there
    split at there
    · next hs =>
      obtain ⟨x, -, rfl⟩ := Option.map_eq_some_iff.1 there
      rw [if_pos hs, Bool.eq_false_iff, ne_eq, live_iff, not_or]
      exact hst
    · next hs =>
      rw [if_neg hs]
      exact there

/-! ## A job that fails on one lane is found on none -/

theorem turnedAway_any {s : State} {j : Job} (hj : j.lane = none) (r : Reason) :
    s.turnedAway j r = if s.someLaneServes j then .skip else .fail .fit := by
  rw [State.turnedAway, hj]

/-- A job for ANY that has a pick point fails only because no lane serves it (R70). -/
theorem verdict_any_fail {s : State} {j : Job} {l : LaneNo} {pick : Point} {r : Reason} (hj : j.lane = none)
    (hp : s.pickPoint j.stack (s.typeEntry j.type) = some pick) (h : s.verdict j l = .fail r) :
    r = .fit ∧ s.someLaneServes j = false := by
  have away : ∀ why, s.turnedAway j why = .fail r → r = .fit ∧ s.someLaneServes j = false := by
    intro why hr
    rw [turnedAway_any hj] at hr
    split at hr
    · cases hr
    · next unserved =>
      cases hr
      exact ⟨rfl, by simpa using unserved⟩
  simp only [State.verdict, hp] at h
  split at h
  · exact away _ h
  · split at h
    · exact away _ h
    · split at h <;> cases h

theorem verdict_any_unserved {s : State} {j : Job} {l : LaneNo} {pick : Point} (hj : j.lane = none)
    (hp : s.pickPoint j.stack (s.typeEntry j.type) = some pick) (hs : s.someLaneServes j = false)
    (hl : (s.lane l).configured = true) : s.verdict j l = .fail .fit := by
  have away (why : Reason) : s.turnedAway j why = .fail .fit := by
    rw [turnedAway_any hj, hs]
    rfl
  simp only [State.verdict, hp]
  split
  · exact away _
  · next fits =>
    split
    · exact away _
    · next place reached =>
      have serves : s.someLaneServes j = true := by
        refine List.any_eq_true.2 ⟨l, mem_allLanes l, ?_⟩
        simpa [hl, reached] using fits
      rw [hs] at serves
      cases serves

/-- A job that fails on one of its lanes fails on each of them, for the same reason. -/
theorem verdict_fail_everywhere {s : State} {j : Job} {l m : LaneNo} {r : Reason} (hl : j.accepts l = true)
    (hm : j.accepts m = true) (hc : (s.lane m).configured = true) (h : s.verdict j l = .fail r) :
    s.verdict j m = .fail r := by
  rw [accepts_iff] at hl hm
  cases hj : j.lane with
  | some x =>
    obtain rfl : x = l := by simpa [hj] using hl
    obtain rfl : x = m := by simpa [hj] using hm
    exact h
  | none =>
    cases hp : s.pickPoint j.stack (s.typeEntry j.type) with
    | none => simpa only [State.verdict, hp] using h
    | some pick =>
      obtain ⟨rfl, unserved⟩ := verdict_any_fail hj hp h
      exact verdict_any_unserved hj hp unserved hc

/-! ## The jobs that fail -/

/-- The job that a pair fails, if it does: its slot and the reason. -/
def State.failOf (s : State) (q : LaneNo × Located) : Option (Nat × Reason) :=
  match s.weighs q, s.verdict q.2.job q.1 with
  | true, .fail r => some (q.2.slot, r)
  | _, _ => none

/-- The jobs that the pairs fail, once each, in the order they were reached. -/
def State.fails (s : State) (qs : List (LaneNo × Located)) : List (Nat × Reason) :=
  (qs.filterMap s.failOf).eraseDups

/-- The state after jobs have failed one after the other. -/
def State.failAll (s : State) (fails : List (Nat × Reason)) : State :=
  fails.foldl (fun u f => u.finishJob f.1 .failed (some f.2)) s

/-- A pair that does not match. -/
def State.passes (s : State) (q : LaneNo × Located) : Prop :=
  s.weighs q = true → ∀ p, s.verdict q.2.job q.1 ≠ .found p

theorem failOf_eq_some {s : State} {q : LaneNo × Located} {f : Nat × Reason} :
    s.failOf q = some f ↔ s.weighs q = true ∧ s.verdict q.2.job q.1 = .fail f.2 ∧ q.2.slot = f.1 := by
  obtain ⟨slot, r⟩ := f
  cases hw : s.weighs q <;> cases hv : s.verdict q.2.job q.1 <;> simp [State.failOf, hw, hv, and_comm]

theorem failOf_unweighed {s : State} {q : LaneNo × Located} (h : s.weighs q = false) : s.failOf q = none :=
  Option.eq_none_iff_forall_ne_some.2 fun _ hf => by simp [failOf_eq_some, h] at hf

theorem mem_fails {s : State} {qs : List (LaneNo × Located)} {f : Nat × Reason} :
    f ∈ s.fails qs ↔ ∃ q ∈ qs, s.failOf q = some f := by
  rw [State.fails, List.mem_eraseDups, List.mem_filterMap]

theorem fails_concat_none {s : State} {qs : List (LaneNo × Located)} {q : LaneNo × Located} (h : s.failOf q = none) :
    s.fails (qs ++ [q]) = s.fails qs := by
  simp [State.fails, List.filterMap_append, h]

theorem fails_concat_some {s : State} {qs : List (LaneNo × Located)} {q : LaneNo × Located} {f : Nat × Reason}
    (h : s.failOf q = some f) :
    s.fails (qs ++ [q]) = if f ∈ s.fails qs then s.fails qs else s.fails qs ++ [f] := by
  simp only [State.fails, List.mem_eraseDups, List.filterMap_append, List.filterMap_cons, h, List.filterMap_nil,
    List.eraseDups_append, List.removeAll, List.filter_cons, List.filter_nil]
  by_cases hf : f ∈ qs.filterMap s.failOf <;> simp [hf, List.eraseDups_cons]

/-! ## The scan up to its hit -/

/-- The state of a scan after the jobs in these slots have failed: the other live jobs stand in their slots, and what stands in
the slot of a failed or a finished job is not live. -/
structure JobsFailed (s u : State) (slots : List Nat) : Prop where
  cell : SameCell s u
  form : u.store.wf = true
  live : ∀ e ∈ s.located, e.slot ∉ slots → e.job.live = true → u.jobAt e.slot = some e.job
  gone : ∀ e ∈ s.located, e.slot ∈ slots ∨ e.job.live = false → ∀ j, u.jobAt e.slot = some j → j.live = false

theorem located_jobAt {s : State} (form : s.store.wf = true) {e : Located} (he : e ∈ s.located) :
    s.jobAt e.slot = some e.job := by
  obtain ⟨i, hi, hj, -⟩ := jobAt_of_located form he
  exact jobAt_eq_some.2 ⟨i, hi, hj⟩

/-- A slot names one entry of the list (R21). -/
theorem located_eq_of_slot {s : State} (form : s.store.wf = true) {e x : Located} (he : e ∈ s.located) (hx : x ∈ s.located)
    (h : e.slot = x.slot) : e = x := by
  obtain ⟨i, hi, hej, hep⟩ := jobAt_of_located form he
  obtain ⟨k, hk, hxj, hxp⟩ := jobAt_of_located form hx
  obtain rfl : i = k := Option.some.inj (hi.symm.trans (h ▸ hk))
  obtain ⟨eslot, epos, ejob⟩ := e
  obtain ⟨xslot, xpos, xjob⟩ := x
  simp_all

theorem JobsFailed.start {s : State} (form : s.store.wf = true) : JobsFailed s s [] where
  cell := .refl s
  form := form
  live _ he _ _ := located_jobAt form he
  gone e he hl j hj := by
    rw [located_jobAt form he] at hj
    cases hj
    simpa using hl

theorem JobsFailed.finish {s u : State} {slots : List Nat} (h : JobsFailed s u slots) (slot : Nat) (r : Reason) :
    JobsFailed s (u.finishJob slot .failed (some r)) (slots ++ [slot]) where
  cell := h.cell.finishJob _ _ _
  form := wf_finishJob h.form _ _ _
  live e he hs hl := by
    obtain ⟨old, new⟩ := not_or.1 (mt List.mem_append.2 hs)
    exact finishJob_keeps_live h.form (by simpa using new) (h.live e he old hl) hl _ _
  gone e he hs j hj := by
    have there := finishJob_jobAt h.form (by simp) hj
    split at there
    · exact there
    · next other =>
      refine h.gone e he (hs.imp_left fun hs => ?_) j there
      exact (List.mem_append.1 hs).resolve_right (by simpa using other)

/-- A pair that is weighed in the first state is weighed alike later, while its job has not failed. -/
theorem JobsFailed.reads {s u : State} {slots : List Nat} (h : JobsFailed s u slots) {q : LaneNo × Located}
    (hq : q.2 ∈ s.located) (hs : q.2.slot ∉ slots) (hw : s.weighs q = true) :
    u.jobAt q.2.slot = some q.2.job ∧ (u.eligible q.2.job && q.2.job.accepts q.1) = true ∧
      u.verdict q.2.job q.1 = s.verdict q.2.job q.1 := by
  obtain ⟨eligible, -⟩ := Bool.and_eq_true_iff.1 hw
  refine ⟨h.live _ hq hs ((eligible_iff _ _).1 eligible).1, ?_, h.cell.verdict _ _⟩
  rw [h.cell.eligible]
  exact hw

/-- A pair that is not weighed, or whose job has failed, is passed over. -/
theorem JobsFailed.test_skips {s : State} {a : Scan} {slots : List Nat} (h : JobsFailed s a.state slots)
    (hn : a.hit = none) {q : LaneNo × Located} (hq : q.2 ∈ s.located)
    (hs : q.2.slot ∈ slots ∨ s.weighs q = false) : a.test q.1 q.2.slot = a := by
  unfold Scan.test
  rw [hn]
  cases hj : a.state.jobAt q.2.slot with
  | none => rfl
  | some j =>
    refine if_neg ?_
    rw [h.cell.eligible, Bool.and_eq_true]
    rintro ⟨eligible, accepted⟩
    have live : j.live = true := ((eligible_iff _ _).1 eligible).1
    have alive : ¬ (q.2.slot ∈ slots ∨ q.2.job.live = false) := fun hg => by
      simpa [live] using h.gone _ hq hg j hj
    obtain ⟨unfailed, finished⟩ := not_or.1 alive
    have same := h.live _ hq unfailed (by simpa using finished)
    obtain rfl : j = q.2.job := by simpa [hj] using same
    have weighed : s.weighs q = true := Bool.and_eq_true_iff.2 ⟨eligible, accepted⟩
    simp [unfailed, weighed] at hs

/-- A job that has failed fails every pair that weighs it, for the reason it failed for. -/
theorem fails_again {s : State} (form : s.store.wf = true) {qs : List (LaneNo × Located)} {q : LaneNo × Located}
    (hqs : ∀ x ∈ qs, x.2 ∈ s.located) (hq : q.2 ∈ s.located) (hc : (s.lane q.1).configured = true)
    (hs : q.2.slot ∈ (s.fails qs).map Prod.fst) (hw : s.weighs q = true) :
    ∃ f ∈ s.fails qs, s.failOf q = some f := by
  obtain ⟨f, hf, hfs⟩ := List.mem_map.1 hs
  obtain ⟨x, hx, hxf⟩ := mem_fails.1 hf
  obtain ⟨hxw, hxv, hxs⟩ := failOf_eq_some.1 hxf
  have same : x.2 = q.2 := located_eq_of_slot form (hqs x hx) hq (hxs.trans hfs)
  obtain ⟨-, haccepts⟩ := Bool.and_eq_true_iff.1 hw
  obtain ⟨-, hxaccepts⟩ := Bool.and_eq_true_iff.1 hxw
  rw [same] at hxaccepts hxv
  exact ⟨f, hf, failOf_eq_some.2 ⟨hw, verdict_fail_everywhere hxaccepts haccepts hc hxv, hfs.symm⟩⟩

theorem failAll_concat (s : State) (fails : List (Nat × Reason)) (f : Nat × Reason) :
    s.failAll (fails ++ [f]) = (s.failAll fails).finishJob f.1 .failed (some f.2) := by
  simp [State.failAll]

/-- A scan that meets no match fails the jobs its pairs fail, and nothing else. -/
theorem scan_unmatched {s : State} (form : s.store.wf = true) {qs : List (LaneNo × Located)}
    (hqs : ∀ q ∈ qs, q.2 ∈ s.located ∧ (s.lane q.1).configured = true) (hp : ∀ q ∈ qs, s.passes q) :
    qs.foldl (fun a q => a.test q.1 q.2.slot) s.scanStart =
        { state := s.failAll (s.fails qs), failed := !(s.fails qs).isEmpty, hit := none } ∧
      JobsFailed s (s.failAll (s.fails qs)) ((s.fails qs).map Prod.fst) := by
  induction qs using List.reverseRecOn with
  | nil => exact ⟨rfl, .start form⟩
  | append_singleton qs q ih =>
    obtain ⟨hold, hnew⟩ := List.forall_mem_append.1 hqs
    obtain ⟨hpold, hpnew⟩ := List.forall_mem_append.1 hp
    obtain ⟨hq, hc⟩ := hnew q (List.mem_singleton_self q)
    have pass := hpnew q (List.mem_singleton_self q)
    obtain ⟨run, failed⟩ := ih hold hpold
    rw [List.foldl_append, run, List.foldl_cons, List.foldl_nil]
    by_cases old : q.2.slot ∈ (s.fails qs).map Prod.fst ∨ s.weighs q = false
    · have same : s.fails (qs ++ [q]) = s.fails qs := by
        cases hw : s.weighs q with
        | false => exact fails_concat_none (failOf_unweighed hw)
        | true =>
          obtain ⟨f, hf, hqf⟩ := fails_again form (fun x hx => (hold x hx).1) hq hc (old.resolve_right (by simp [hw])) hw
          rw [fails_concat_some hqf, if_pos hf]
      rw [same, failed.test_skips rfl hq old]
      exact ⟨rfl, failed⟩
    · obtain ⟨fresh, weighed⟩ := not_or.1 old
      have hw : s.weighs q = true := by simpa using weighed
      obtain ⟨hj, tested, verdict⟩ := failed.reads hq fresh hw
      cases hv : s.verdict q.2.job q.1 with
      | found p => exact absurd hv (pass hw p)
      | skip =>
        rw [fails_concat_none (Option.eq_none_iff_forall_ne_some.2 fun f hf => by simp [failOf_eq_some, hv] at hf)]
        refine ⟨?_, failed⟩
        simp [Scan.test, hj, tested, verdict, hv]
      | fail r =>
        have fails : s.failOf q = some (q.2.slot, r) := failOf_eq_some.2 ⟨hw, hv, rfl⟩
        rw [fails_concat_some fails, if_neg fun hf => fresh (List.mem_map_of_mem hf), failAll_concat, List.map_append]
        refine ⟨?_, failed.finish _ _⟩
        simp [Scan.test, hj, tested, verdict, hv]

/-- A scan that has its hit is done. -/
theorem foldl_test_hit {a : Scan} {h : Hit} (ha : a.hit = some h) (qs : List (LaneNo × Located)) :
    qs.foldl (fun a q => a.test q.1 q.2.slot) a = a := by
  induction qs with
  | nil => rfl
  | cons q qs ih =>
    have done : a.test q.1 q.2.slot = a := by
      unfold Scan.test
      rw [ha]
    rw [List.foldl_cons, done, ih]

/-- The first pair that matches is the hit, and no pair after it is weighed. -/
theorem scan_matched {s : State} (form : s.store.wf = true) {before after : List (LaneNo × Located)}
    {q : LaneNo × Located} {p : Placing}
    (hqs : ∀ x ∈ before ++ q :: after, x.2 ∈ s.located ∧ (s.lane x.1).configured = true)
    (hp : ∀ x ∈ before, s.passes x) (hw : s.weighs q = true) (hv : s.verdict q.2.job q.1 = .found p) :
    (before ++ q :: after).foldl (fun a q => a.test q.1 q.2.slot) s.scanStart =
      { state := s.failAll (s.fails before), failed := !(s.fails before).isEmpty,
        hit := some { lane := q.1, slot := q.2.slot, job := q.2.job, placing := p } } := by
  obtain ⟨hbefore, hrest⟩ := List.forall_mem_append.1 hqs
  obtain ⟨hq, hc⟩ := hrest q List.mem_cons_self
  obtain ⟨run, failed⟩ := scan_unmatched form hbefore hp
  have fresh : q.2.slot ∉ (s.fails before).map Prod.fst := fun hs => by
    obtain ⟨f, -, hf⟩ := fails_again form (fun x hx => (hbefore x hx).1) hq hc hs hw
    simp [failOf_eq_some, hv] at hf
  obtain ⟨hj, tested, verdict⟩ := failed.reads hq fresh hw
  have hit : Scan.test q.1 { state := s.failAll (s.fails before), failed := !(s.fails before).isEmpty, hit := none } q.2.slot =
      { state := s.failAll (s.fails before), failed := !(s.fails before).isEmpty,
        hit := some { lane := q.1, slot := q.2.slot, job := q.2.job, placing := p } } := by
    simp [Scan.test, hj, tested, verdict, hv]
  rw [List.foldl_append, run, List.foldl_cons, hit]
  exact foldl_test_hit rfl after

/-! ## The hit of an attempt -/

/-- Either every pair of an attempt passes, or there is a first pair that matches. -/
theorem passes_or_first (s : State) (qs : List (LaneNo × Located)) :
    (∀ q ∈ qs, s.passes q) ∨ ∃ before q after p, qs = before ++ q :: after ∧ s.weighs q = true ∧
      s.verdict q.2.job q.1 = .found p ∧ ∀ x ∈ before, s.passes x := by
  induction qs with
  | nil => exact .inl (List.forall_mem_nil _)
  | cons q qs ih =>
    by_cases hq : s.passes q
    · rcases ih with all | ⟨before, x, after, p, rfl, hw, hv, hb⟩
      · exact .inl (List.forall_mem_cons.2 ⟨hq, all⟩)
      · exact .inr ⟨q :: before, x, after, p, rfl, hw, hv, List.forall_mem_cons.2 ⟨hq, hb⟩⟩
    · simp only [State.passes, not_forall, not_not] at hq
      obtain ⟨hw, p, hv⟩ := hq
      exact .inr ⟨[], q, qs, p, rfl, hw, hv, List.forall_mem_nil _⟩

/-- The pairs of an attempt are of listed jobs and configured lanes (R93). -/
theorem scanPairs_sound {s : State} (lists : s.ListsExact) :
    ∀ q ∈ s.scanPairs, q.2 ∈ s.located ∧ (s.lane q.1).configured = true := by
  intro q hq
  obtain ⟨hopen, hwindow⟩ := scanPairs_mem hq
  refine ⟨List.mem_of_mem_take hwindow, lists.configured _ fun parked => ?_⟩
  simpa [parked] using ((laneOpen_iff s q.1).1 hopen).1

/-- The scan of an attempt without a match. -/
theorem scan_of_passes {s : State} (form : s.store.wf = true) (lists : s.ListsExact)
    (h : ∀ q ∈ s.scanPairs, s.passes q) :
    s.scan = { state := s.failAll (s.fails s.scanPairs), failed := !(s.fails s.scanPairs).isEmpty, hit := none } := by
  rw [scan_eq_foldl]
  exact (scan_unmatched form (scanPairs_sound lists) h).1

/-- The scan of an attempt with its first match. -/
theorem scan_of_first {s : State} (form : s.store.wf = true) (lists : s.ListsExact)
    {before after : List (LaneNo × Located)} {q : LaneNo × Located} {p : Placing}
    (hqs : s.scanPairs = before ++ q :: after) (hw : s.weighs q = true) (hv : s.verdict q.2.job q.1 = .found p)
    (hb : ∀ x ∈ before, s.passes x) :
    s.scan = { state := s.failAll (s.fails before), failed := !(s.fails before).isEmpty,
               hit := some { lane := q.1, slot := q.2.slot, job := q.2.job, placing := p } } := by
  have pairs := scanPairs_sound lists
  rw [scan_eq_foldl]
  rw [hqs] at pairs ⊢
  exact scan_matched form pairs hb hw hv

theorem scan_hit_iff {s : State} (form : s.store.wf = true) (lists : s.ListsExact) (h : Hit) :
    s.scan.hit = some h ↔ ∃ before e after, s.scanPairs = before ++ (h.lane, e) :: after ∧ h.slot = e.slot ∧
      h.job = e.job ∧ s.weighs (h.lane, e) = true ∧ s.verdict e.job h.lane = .found h.placing ∧
      ∀ q ∈ before, s.passes q := by
  constructor
  · intro hh
    rcases passes_or_first s s.scanPairs with all | ⟨before, q, after, p, hqs, hw, hv, hb⟩
    · rw [scan_of_passes form lists all] at hh
      cases hh
    · rw [scan_of_first form lists hqs hw hv hb] at hh
      cases hh
      exact ⟨before, q.2, after, hqs, rfl, rfl, hw, hv, hb⟩
  · rintro ⟨before, e, after, hqs, hslot, hjob, hw, hv, hb⟩
    rw [scan_of_first form lists hqs hw hv hb]
    simp only [← hslot, ← hjob]

theorem scan_hit_none_iff {s : State} (form : s.store.wf = true) (lists : s.ListsExact) :
    s.scan.hit = none ↔ ∀ q ∈ s.scanPairs, s.passes q := by
  constructor
  · intro hh
    rcases passes_or_first s s.scanPairs with all | ⟨before, q, after, p, hqs, hw, hv, hb⟩
    · exact all
    · rw [scan_of_first form lists hqs hw hv hb] at hh
      cases hh
  · intro all
    rw [scan_of_passes form lists all]

/-- Settles O39: the hit of any scan by `scan_sound`; in a sound state the scan is its pairs up to the first that matches. -/
theorem matchIsOpenAndEligible : Obligations.MatchIsOpenAndEligible := by
  unfold Obligations.MatchIsOpenAndEligible
  refine ⟨fun s h hh => ?_, window_getElem?, ?_⟩
  · obtain ⟨hopen, hwindow, hjob, eligible, accepted, found⟩ := (scan_sound s).hit h hh
    obtain ⟨state, park, inbound, ready⟩ := (laneOpen_iff s h.lane).1 hopen
    obtain ⟨live, pending, remaining, present, suspect, count, type⟩ := (eligible_iff s h.job).1 eligible
    exact ⟨state, park, inbound, ready, hwindow, hjob, live, pending, remaining, present, suspect, count, type,
      (accepts_iff _ _).1 accepted, found⟩
  intro s opens starves weighs pairs reached form lists hopens hstarves hweighs hpairs
  obtain rfl : opens = s.laneOpen := funext fun l => Bool.eq_iff_iff.2 ((hopens l).trans (laneOpen_iff s l).symm)
  obtain rfl : starves = s.starved := funext fun e => Bool.eq_iff_iff.2 ((hstarves e).trans (starved_iff s e).symm)
  obtain rfl : weighs = s.weighs := funext fun q => Bool.eq_iff_iff.2 <| by
    rw [hweighs q.1 q.2, State.weighs, Bool.and_eq_true, eligible_iff, accepts_iff]
    simp only [and_assoc]
  obtain rfl : pairs = s.scanPairs := hpairs
  refine ⟨scan_hit_iff form lists, scan_hit_none_iff form lists, fun hreached fails hfails => ?_⟩
  obtain rfl : fails = s.fails reached := hfails.trans (congrArg (fun f => (reached.filterMap f).eraseDups)
    (funext fun q => by unfold State.failOf; cases s.weighs q <;> cases s.verdict q.2.job q.1 <;> rfl))
  have scan : s.scan.state = s.failAll (s.fails reached) ∧ s.scan.failed = !(s.fails reached).isEmpty := by
    rcases hreached with ⟨hnone, rfl⟩ | ⟨e, after, p, hqs, hw, hv, hb⟩
    · rw [scan_of_passes form lists ((scan_hit_none_iff form lists).1 hnone)]
      exact ⟨rfl, rfl⟩
    · rw [scan_of_first form lists hqs hw hv hb]
      exact ⟨rfl, rfl⟩
  refine ⟨scan.1, ?_⟩
  rw [scan.2]
  simp

end Sys2Proof.Machine
end

section
/-! The requests on the stacks: SET STACK, LOAD STACK and UNLOAD STACK (R42 to R48). -/

namespace Sys2Proof.Machine

theorem within_iff (lo hi v : Nat) : within lo hi v = true ↔ lo ≤ v ∧ v ≤ hi := by
  simp [within]

/-- The phases before the grip (R131), listed. -/
theorem preGrip_iff (p : Phase) : p.preGrip = true ↔ p ∈ [Phase.toStack, .search, .grip] := by
  cases p <;> decide

/-- A stack in work (R44). -/
theorem inWork_iff (s : State) (k : StackNo) :
    s.inWork k = true ↔ ∃ t, s.transfer = some t ∧ t.stack = k ∧ t.phase ∈ [Phase.toStack, .search, .grip] := by
  simp only [State.inWork, Option.any_eq_true, Bool.and_eq_true, beq_iff_eq, preGrip_iff]

/-- A stack named by a job (R45 check 5). -/
theorem jobsName_iff (s : State) (k : StackNo) : s.jobsName k = true ↔ ∃ j ∈ s.store.jobs.entries, j.stack = k := by
  simp [State.jobsName]

theorem PerStack.set_get_self {α : Type} (t : PerStack α) (k : StackNo) : t.set k (t.get k) = t := by
  cases k <;> rfl

/-- An ABSENT stack is left as it stands when it is written ABSENT again. -/
theorem setStack_absent {s : State} {k : StackNo} (h : (s.stack k).present = false) :
    s.setStack k { s.stack k with present := false } = s := by
  have same : { s.stack k with present := false } = s.stack k := by rw [← h]
  rw [same, State.setStack, State.stack, PerStack.set_get_self]

theorem deliver_ite (c : Prop) [Decidable c] (a a' : Answer) (f : Frame) :
    (if c then a else a').deliver f = if c then a.deliver f else a'.deliver f :=
  apply_ite (Answer.deliver · f) c a a'

/-- An accepted request with a reply payload that is a re-evaluation event (R100, R170). -/
theorem deliver_okWake (p : List Byte) (s : State) (k : RequestKind) (b : Body) :
    ({ result := .ok, payload := p, state := s, wake := true, later := false } : Answer).deliver (frameOfRequest k b) =
      (s.withReply k.code b .ok p).reevaluate :=
  deliver_now _ k b rfl nofun

/-! ## SET STACK and UNLOAD STACK -/

/-- The answer of SET STACK on a stack, check by check (R43). -/
theorem answerSetStack_of {f : Frame} {k : StackNo} (hk : u8 f.body.payload 0 = k.code) (s : State) :
    answerSetStack f s =
      if (s.stack k).present = true then refuse .stackBusy s
      else if (s.travel.xMin ≤ u16 f.body.payload 1 ∧ u16 f.body.payload 1 ≤ s.travel.xMax) ∧
          (s.travel.yMin ≤ u16 f.body.payload 3 ∧ u16 f.body.payload 3 ≤ s.travel.yMax) ∧
          (s.travel.zMin ≤ u16 f.body.payload 5 ∧ u16 f.body.payload 5 ≤ s.travel.zMax) then
        accept (s.setStack k { s.stack k with
          geometrySet := true, xs := u16 f.body.payload 1, ys := u16 f.body.payload 3, zf := u16 f.body.payload 5 })
      else refuse .outOfRange s := by
  simp only [answerSetStack, stackOf_eq_some.2 hk, Bool.not_eq_true', ← Bool.not_eq_true, Bool.and_eq_true, within_iff,
    and_assoc, ite_not]

/-- The answer of UNLOAD STACK on a stack: an ABSENT stack in no work is accepted and stays as it is (R48). -/
theorem answerUnloadStack_of {f : Frame} {k : StackNo} (hk : u8 f.body.payload 0 = k.code) (s : State) :
    answerUnloadStack f s =
      if s.inWork k = true then refuse .stackBusy s
      else accept (s.setStack k { s.stack k with present := false }) := by
  simp only [answerUnloadStack, stackOf_eq_some.2 hk]
  cases hp : (s.stack k).present with
  | true => rfl
  | false => simp [setStack_absent hp]

/-- Settles O29: each answer's checks, in the order of its table, each with the reply it brings. -/
theorem stacksAreSetAndUnloaded : Obligations.StacksAreSetAndUnloaded := by
  unfold Obligations.StacksAreSetAndUnloaded
  intro b s h
  refine ⟨fun hb hk => exec_refused h .setStack b hb ?_, fun k hb hk => ?_,
    fun hb hk => exec_refused h .unloadStack b hb ?_, fun k hb hk => ⟨fun busy => ?_, fun free => ?_⟩⟩
  · simp only [answerOf, answerSetStack, frameOfRequest, stackOf_eq_none.2 hk]
  · refine (exec_request_ready h .setStack b hb 0).trans (congrArg _ ?_)
    rw [answerOf, answerSetStack_of (f := frameOfRequest .setStack b) hk]
    simp only [deliver_ite, deliver_refuse, deliver_accept]
    rfl
  · simp only [answerOf, answerUnloadStack, frameOfRequest, stackOf_eq_none.2 hk]
  · exact exec_refused h .unloadStack b hb
      ((answerUnloadStack_of hk s.quiet).trans (if_pos ((inWork_iff s.quiet k).2 busy)))
  · have idle : ¬ s.quiet.inWork k = true := fun busy => by
      obtain ⟨t, ht, hs, hp⟩ := (inWork_iff s.quiet k).1 busy
      exact free t ht hs hp
    exact exec_answered h .unloadStack b hb ((answerUnloadStack_of hk s.quiet).trans (if_neg idle)) rfl nofun

/-! ## LOAD STACK -/

/-- The answer of LOAD STACK on a stack, check by check (R45, R46). -/
theorem answerLoadStack_of {f : Frame} {k : StackNo} (hk : u8 f.body.payload 0 = k.code) (s : State) {top : Nat}
    (htop : top = (s.stack k).zf + u16 f.body.payload 2 * (s.typeEntry (u8 f.body.payload 1)).thk) :
    answerLoadStack f s =
      if u16 f.body.payload 2 = 0 ∨ 500 < u16 f.body.payload 2 then refuse .outOfRange s
      else if s.store.partition.typeSlots ≤ u8 f.body.payload 1 ∨
          lookupType s.store.types (u8 f.body.payload 1) = none then refuse .typeUndefined s
      else if (s.stack k).geometrySet = false then refuse .stackUnset s
      else if ∃ t, s.transfer = some t ∧ t.stack = k ∧ t.phase ∈ [Phase.toStack, .search, .grip] then refuse .stackBusy s
      else if (s.stack k).present = true ∧ (s.stack k).type ≠ u8 f.body.payload 1 ∧
          ∃ j ∈ s.store.jobs.entries, j.stack = k then refuse .stackType s
      else if (s.travel.ztravel : Int) - 1000 < top then refuse .stackHeight s
      else { result := .ok, payload := le16 top,
             state := s.setStack k ((s.stack k).loaded (u8 f.body.payload 1) (u16 f.body.payload 2)), wake := true,
             later := false } := by
  have count : (!within 1 500 (u16 f.body.payload 2)) = true ↔ u16 f.body.payload 2 = 0 ∨ 500 < u16 f.body.payload 2 := by
    rw [Bool.not_eq_true', ← Bool.not_eq_true, within_iff]
    omega
  have type : (!s.typeDefined (u8 f.body.payload 1)) = true ↔
      s.store.partition.typeSlots ≤ u8 f.body.payload 1 ∨ lookupType s.store.types (u8 f.body.payload 1) = none := by
    rw [Bool.not_eq_true', typeDefined_eq_false]
  have named : ((s.stack k).present && (s.stack k).type != u8 f.body.payload 1 && s.jobsName k) = true ↔
      (s.stack k).present = true ∧ (s.stack k).type ≠ u8 f.body.payload 1 ∧
        ∃ j ∈ s.store.jobs.entries, j.stack = k := by
    rw [Bool.and_eq_true, Bool.and_eq_true, bne_iff_ne, jobsName_iff, and_assoc]
  have height : s.travel.ztravel < top + 1000 ↔ (s.travel.ztravel : Int) - 1000 < top := by omega
  simp only [answerLoadStack, stackOf_eq_some.2 hk, ← htop, count, type, inWork_iff, named, height, Bool.not_eq_true']

/-- Settles O30: the checks of `answerLoadStack_of`, each with the reply it brings; the load wakes the dispatcher. -/
theorem loadStackFillsTheStack : Obligations.LoadStackFillsTheStack := by
  unfold Obligations.LoadStackFillsTheStack
  intro b s h hb
  refine ⟨fun hk => exec_refused h .loadStack b hb ?_, fun k top hk htop => ?_⟩
  · simp only [answerOf, answerLoadStack, frameOfRequest, stackOf_eq_none.2 hk]
  · refine (exec_request_ready h .loadStack b hb 0).trans (congrArg _ ?_)
    rw [answerOf, answerLoadStack_of (f := frameOfRequest .loadStack b) hk s.quiet htop]
    simp only [deliver_ite, deliver_refuse, deliver_okWake]
    rfl

end Sys2Proof.Machine
end

section
/-! What leaves the message link alone: every operation of the cell and every answer of a block. A request that is examined
changes the reply slot and the last link error only, so the frame in the transmitter stands (R170, R175). -/

namespace Sys2Proof.Machine

section LinkUnchanged

variable (s : State)

/-! ## Drive ports, jobs and lanes -/

@[simp] theorem State.issue_link (ts : List Target) : (s.issue ts).link = s.link := by
  obtain ⟨g, hg, -⟩ := issue_frame s ts
  rw [hg]

@[simp] theorem State.issueHome_link (axes : List Axis) : (s.issueHome axes).link = s.link := by
  obtain ⟨g, hg, -⟩ := issueHome_frame s axes
  rw [hg]

@[simp] theorem State.stop_link (axes : List Axis) : (s.stop axes).link = s.link := by
  obtain ⟨g, hg, -⟩ := stop_frame s axes
  rw [hg]

@[simp] theorem State.stopAll_link : s.stopAll.link = s.link := by
  obtain ⟨g, hg, -⟩ := stopAll_frame s
  rw [hg]

@[simp] theorem State.modifyJob_link (slot : Nat) (f : Job → Job) : (s.modifyJob slot f).link = s.link := by
  rw [modifyJob_frame]

@[simp] theorem State.onRecordJob_link (f : Job → Job) : (s.onRecordJob f).link = s.link := by
  rw [onRecordJob_frame]

@[simp] theorem State.finishJob_link (slot : Nat) (st : JobState) (r : Option Reason) :
    (s.finishJob slot st r).link = s.link := by
  rw [finishJob_frame]

@[simp] theorem State.closeBook_link (l : LaneNo) : (s.closeBook l).link = s.link := by
  obtain ⟨v, q, hv⟩ := closeBook_frame s l
  rw [hv]

@[simp] theorem State.closeTest_link (l : LaneNo) : (s.closeTest l).link = s.link := by
  obtain ⟨v, q, hv⟩ := closeTest_frame s l
  rw [hv]

/-! ## Faults and the halt -/

@[simp] theorem State.firstFault_link (k : FaultKind) (f : FaultState) : (s.firstFault k f).link = s.link := by
  simp [State.firstFault]

@[simp] theorem State.furtherFault_link (e : FaultEntry) : (s.furtherFault e).link = s.link := by
  simp [State.furtherFault]

@[simp] theorem State.boardLost_link : s.boardLost.link = s.link := by
  simp [State.boardLost]

@[simp] theorem State.takeFault_link (k : FaultKind) : (s.takeFault k).link = s.link := by
  unfold State.takeFault
  dsimp only
  repeat' split
  all_goals simp

@[simp] theorem State.inputFault_link (k : FaultKind) : (s.inputFault k).link = s.link := by
  unfold State.inputFault
  split <;> simp

@[simp] theorem State.faultsFound_link : s.faultsFound.link = s.link :=
  List.foldlRecOn (motive := fun u : State => u.link = s.link) _ _ rfl fun u hu k _ => (u.inputFault_link k).trans hu

@[simp] theorem State.halt_link : s.halt.link = s.link := by
  unfold State.halt
  split <;> simp

/-! ## The phases -/

@[simp] theorem State.startGrip_link : s.startGrip.link = s.link := by
  unfold State.startGrip
  split <;> rfl

@[simp] theorem State.startRelease_link : s.startRelease.link = s.link := rfl

@[simp] theorem State.markSuspect_link (k : StackNo) : (s.markSuspect k).link = s.link := rfl

@[simp] theorem State.enterRetreat_link : s.enterRetreat.link = s.link := by
  simp [State.enterRetreat]

@[simp] theorem State.abandonFor_link (slot tag : Nat) : (s.abandonFor slot tag).link = s.link := by
  unfold State.abandonFor State.abandon
  repeat' split
  all_goals simp

@[simp] theorem State.issueToStack_link (t : Transfer) : (s.issueToStack t).link = s.link := by
  simp [State.issueToStack]

@[simp] theorem State.enterGrip_link (t : Transfer) : (s.enterGrip t).link = s.link := by
  simp [State.enterGrip]

@[simp] theorem State.contactEvent_link (z : Nat) : (s.contactEvent z).link = s.link := by
  unfold State.contactEvent
  dsimp only
  repeat' split
  all_goals simp

@[simp] theorem State.issueSearch_link (z : Nat) : (s.issueSearch z).link = s.link := by
  unfold State.issueSearch
  dsimp only
  repeat' split
  all_goals simp

@[simp] theorem State.issueToLane_link (t : Transfer) : (s.issueToLane t).link = s.link := by
  simp [State.issueToLane]

@[simp] theorem State.issueRise_link : s.issueRise.link = s.link := by
  simp [State.issueRise]

@[simp] theorem State.issueRejectRise_link : s.issueRejectRise.link = s.link := by
  simp [State.issueRejectRise]

@[simp] theorem State.enterAborting_link (t : Transfer) : (s.enterAborting t).link = s.link := by
  simp [State.enterAborting]

@[simp] theorem State.issueRejectLower_link (t : Transfer) : (s.issueRejectLower t).link = s.link := by
  simp [State.issueRejectLower]

@[simp] theorem State.closeRecord_link (t : Transfer) : (s.closeRecord t).link = s.link := by
  have resolved : (s.resolveCancel t).link = s.link := by
    unfold State.resolveCancel
    repeat' split
    all_goals simp
  simp [State.closeRecord, resolved]

@[simp] theorem State.homeZ_link : s.homeZ.link = s.link := by
  simp [State.homeZ]

@[simp] theorem State.resumePhase_link (t : Transfer) (z : Nat) : (s.resumePhase t z).link = s.link := by
  unfold State.resumePhase
  split <;> simp

@[simp] theorem State.resumeWork_link (r : Remembered) (z : Nat) : (s.resumeWork r z).link = s.link := by
  have record (u : State) : (u.resumeRecord z).link = u.link := by
    unfold State.resumeRecord
    split <;> simp
  cases r <;> simp [State.resumeWork, record]

/-! ## Selection -/

@[simp] theorem State.select_link (h : Hit) : (s.select h).link = s.link := by
  simp [State.select]

@[simp] theorem State.scan_link : s.scan.state.link = s.link := by
  obtain ⟨store, notices, hu, -⟩ := (scan_sound s).cell
  rw [hu]

theorem State.attempts_link (fuel : Nat) : (State.attempts fuel s).link = s.link := by
  induction fuel generalizing s with
  | zero => rfl
  | succ fuel ih =>
    simp only [State.attempts]
    repeat' split
    · simp
    · rw [ih, State.scan_link]
    · exact s.scan_link

@[simp] theorem State.reevaluate_link : s.reevaluate.link = s.link := by
  unfold State.reevaluate
  split
  · exact s.attempts_link _
  · rfl

end LinkUnchanged

/-! ## The answers of the blocks -/

@[simp] theorem State.setDryRun_link (s : State) (b : Bool) : (s.setDryRun b).link = s.link := by
  unfold State.setDryRun State.enterDryRun State.leaveDryRun
  dsimp only
  repeat' split
  all_goals rfl

@[simp] theorem State.travelChanged_link (s : State) (z : Nat) : (s.travelChanged z).link = s.link := by
  unfold State.travelChanged
  repeat' split
  all_goals rfl

theorem answerRestart_link (f : Frame) (s : State) : (answerRestart f s).state.link = s.link := by
  have discarded : s.discardRecord.link = s.link := by
    unfold State.discardRecord
    split <;> rfl
  unfold answerRestart
  repeat' split
  · rfl
  · rfl
  · exact discarded

theorem answerAmendJob_link (f : Frame) (s : State) : (answerAmendJob f s).state.link = s.link := by
  have amended (e : Located) (a : Amendment) : (s.amended e a).link = s.link := by
    unfold State.amended
    dsimp only
    split <;> simp
  unfold answerAmendJob
  repeat' split
  case h_2.isFalse.isFalse.isFalse.isFalse => exact amended _ _
  all_goals rfl

theorem answerCancelJob_link (f : Frame) (s : State) : (answerCancelJob f s).state.link = s.link := by
  unfold answerCancelJob
  repeat' split
  · rfl
  · rfl
  · rfl
  · exact s.modifyJob_link ..
  · simp [acceptWake, State.cancelled]

theorem parkLane_link (s : State) (l : LaneNo) : (s.parkLane l).state.link = s.link := by
  unfold State.parkLane
  dsimp only
  repeat' split
  case h_3.isFalse.isFalse => exact State.closeBook_link _ l
  all_goals rfl

theorem unparkLane_link (s : State) (l : LaneNo) : (s.unparkLane l).state.link = s.link := by
  unfold State.unparkLane
  dsimp only
  repeat' split
  all_goals rfl

theorem requestClose_link (s : State) (l : LaneNo) : (s.requestClose l).state.link = s.link := by
  unfold State.requestClose
  repeat' split
  case h_1.isFalse => exact s.closeBook_link l
  all_goals rfl

theorem answerHome_link (f : Frame) (s : State) : (answerHome f s).state.link = s.link := by
  unfold answerHome
  repeat' split
  · rfl
  · simp [accept]
  · rfl

theorem answerResume_link (f : Frame) (z : Nat) (s : State) : (answerResume f z s).state.link = s.link := by
  unfold answerResume
  repeat' split
  · rfl
  · rfl
  · exact s.resumeWork_link _ z

theorem abortTransfer_link (s : State) (t : Transfer) : (s.abortTransfer t).state.link = s.link := by
  unfold State.abortTransfer
  split
  case h_1 | h_2 | h_3 => exact s.enterRetreat_link
  case h_4 | h_5 | h_6 => exact s.enterAborting_link t
  all_goals rfl

theorem answerAbort_link (f : Frame) (s : State) : (answerAbort f s).state.link = s.link := by
  unfold answerAbort
  split
  case h_1 =>
    split
    · exact abortTransfer_link s _
    · rfl
  all_goals rfl

theorem answerClearFault_link (f : Frame) (s : State) : (answerClearFault f s).state.link = s.link := by
  have settled : s.settleRecord.link = s.link := by
    unfold State.settleRecord State.settleInFlight
    repeat' split
    all_goals simp
  unfold answerClearFault
  repeat' split
  case isFalse.isFalse.isFalse => exact settled
  all_goals rfl

theorem answerReleaseHeld_link (f : Frame) (s : State) : (answerReleaseHeld f s).state.link = s.link := by
  unfold answerReleaseHeld
  repeat' split
  case h_1.isTrue | h_2.isTrue => exact s.boardLost_link
  all_goals rfl

/-- No block touches the link in what it makes of a request. -/
theorem answerOf_link (k : RequestKind) (f : Frame) (z : Nat) (s : State) : (answerOf k f z s).state.link = s.link := by
  cases k
  case queryStatus | readFault | readConfig | readTypes | listJobs | readStacks | run | hold => rfl
  case halt => exact s.halt_link
  case restart => exact answerRestart_link f s
  case amendJob => exact answerAmendJob_link f s
  case cancelJob => exact answerCancelJob_link f s
  case home => exact answerHome_link f s
  case resume => exact answerResume_link f z s
  case abort => exact answerAbort_link f s
  case clearFault => exact answerClearFault_link f s
  case releaseHeld => exact answerReleaseHeld_link f s
  case setModes | setTravel =>
    simp only [answerOf, answerSetModes, answerSetTravel]
    repeat' split
    all_goals simp [refuse, accept]
  case parkLane | unparkLane | closeBook =>
    simp only [answerOf, answerParkLane, answerUnparkLane, answerCloseBook]
    split
    · rfl
    · simp only [parkLane_link, unparkLane_link, requestClose_link]
  case partitionStore | defineType | dropType | setTypeCursor | enqueueJob | readJob | setListCursor | setStack | loadStack |
      unloadStack | setLane | readLane =>
    simp only [answerOf, answerPartitionStore, answerDefineType, answerDropType, answerSetTypeCursor, answerEnqueueJob,
      answerReadJob, answerSetListCursor, answerSetStack, answerLoadStack, answerUnloadStack, answerSetLane, answerReadLane]
    repeat' split
    all_goals rfl

/-! ## The decoder -/

/-- Placing a reply leaves the transmitter alone. -/
theorem placeReply_tx (s : State) (f : Frame) (r : Result) (p : List Byte) :
    (s.placeReply f r p).link.tx = s.link.tx := by
  unfold State.placeReply
  dsimp only
  split <;> rfl

theorem deliver_tx (a : Answer) (f : Frame) : (a.deliver f).link.tx = a.state.link.tx := by
  unfold Answer.deliver
  dsimp only
  repeat' split
  · rfl
  · rw [State.reevaluate_link, placeReply_tx]
  · exact placeReply_tx ..

/-- The examination of a frame leaves the transmitter alone (R170). -/
theorem examine_tx (s : State) (f : Frame) (z : Nat) : (s.examine f z).link.tx = s.link.tx := by
  unfold State.examine
  repeat' split
  · exact placeReply_tx ..
  · exact placeReply_tx ..
  · exact placeReply_tx ..
  · rw [deliver_tx, answerOf_link]

theorem takeHeld_tx (s : State) (z : Nat) : (s.takeHeld z).link.tx = s.link.tx := by
  unfold State.takeHeld
  split
  · rw [examine_tx]
    rfl
  · rfl

end Sys2Proof.Machine
end

section
/-! What FRAME_START sends (R52, R94, R152, R158, R164, R170, R175 to R178). -/

namespace Sys2Proof.Machine

/-! ## Flag bytes (R164) -/

theorem bits_two (a b : Bool) : bits [a, b] = (if a then 1 else 0) + (if b then 2 else 0) := by
  cases a <;> cases b <;> rfl

theorem bits_four (a b c d : Bool) :
    bits [a, b, c, d] = (if a then 1 else 0) + (if b then 2 else 0) + (if c then 4 else 0) + (if d then 8 else 0) := by
  simp only [bits, mul_add, mul_ite, mul_one, mul_zero, ← add_assoc]
  rfl

/-- Flag `i` of the list is bit `i` of its byte. -/
theorem testBit_bits (bs : List Bool) (i : Nat) : (bits bs).testBit i = bs.getD i false := by
  induction bs generalizing i with
  | nil => simp [bits]
  | cons b bs ih =>
    cases i with
    | zero => cases b <;> simp [bits, Nat.testBit_zero]
    | succ i =>
      have half : ((if b then 1 else 0) + 2 * bits bs) / 2 = bits bs := by
        cases b <;> simp only [Bool.false_eq_true, if_true, if_false] <;> omega
      rw [Nat.testBit_succ, bits, half, ih, List.getD_cons_succ]

theorem stackFlags_getLsbD (flag : StackNo → Bool) (k : StackNo) :
    (byteOf (bits (allStacks.map flag))).getLsbD (k.code - 1) = flag k := by
  rw [byteOf, BitVec.getLsbD_ofNat, testBit_bits]
  cases k <;> rfl

/-! ## The value codes of the notices (R164) -/

theorem byteOf_laneState (v : LaneState) :
    byteOf v.code = match v with | .parked => 0 | .idle => 1 | .filling _ => 2 | .handed _ => 3 := by
  cases v <;> rfl

theorem byteOf_jobState (v : JobState) : byteOf v.code =
    match v with | .queued => 0 | .active => 1 | .complete => 2 | .cancelled => 3 | .failed => 4 := by
  cases v <;> rfl

theorem byteOf_reason (r : Option Reason) :
    byteOf (reasonCode r) = match r with | none => 0 | some .reach => 1 | some .fit => 2 := by
  rcases r with _ | _ | _ <;> rfl

theorem byteOf_rotation (r : Rotation) : byteOf r.degrees = match r with | .r0 => 0 | .r90 => 90 := by
  cases r <;> rfl

/-! ## Which notice is due (R176, R177) -/

theorem lane_noticePending_iff (v : Lane) : v.noticePending = true ↔
    v.noteHanded = true ∨ v.noteParked = true ∨ v.noteStalled = true ∨ v.noteSpurious = true := by
  simp only [Lane.noticePending, Bool.or_eq_true, or_assoc]

theorem stackNoticePending_iff (s : State) :
    s.stackNoticePending = true ↔ ∃ k, (s.stack k).emptyFlag = true ∨ (s.stack k).suspectFlag = true := by
  simp [State.stackNoticePending]

theorem laneNoticeDue_none {s : State} (h : ∀ l, (s.lane l).noticePending = false) : s.laneNoticeDue = none :=
  List.find?_eq_none.2 fun l _ => by simp [h l]

/-- The lowest-numbered lane with a pending notice is the one due. -/
theorem laneNoticeDue_lowest {s : State} {l : LaneNo} (hl : (s.lane l).noticePending = true)
    (hm : ∀ m, laneCode m < laneCode l → (s.lane m).noticePending = false) : s.laneNoticeDue = some l := by
  have before (m : LaneNo) (h : laneCode m < laneCode l := by decide) : (s.lane m).noticePending = false := hm m h
  cases l with
  | l1 => simp [State.laneNoticeDue, allLanes, hl]
  | l2 => simp [State.laneNoticeDue, allLanes, hl, before .l1]
  | l3 => simp [State.laneNoticeDue, allLanes, hl, before .l1, before .l2]
  | l4 => simp [State.laneNoticeDue, allLanes, hl, before .l1, before .l2, before .l3]

/-! ## A frame that arrives where the decoder takes it -/

theorem fits_iff (b : Body) : b.fits = true ↔ b.payload.length ≤ 56 := by
  simp [Body.fits]

theorem exec_request_examined {u : State} (h : u.takesAtOnce) (k : RequestKind) (b : Body) (hb : b.fits = true) (z : Nat) :
    exec (requestCommand k b z) u = .next (u.quiet.examine (frameOfRequest k b) z) := by
  rw [exec_request_z, take_running h.1, requestArrives_examined h _ ((fits_iff b).1 hb)]

theorem exec_unknownKind_examined {u : State} (h : u.takesAtOnce) {c : Byte} (hc : kindKnown c = false) (b : Body)
    (hb : b.fits = true) (z : Nat) :
    exec (.unknownKindRequest c b) u = .next (u.quiet.examine { kind := c, body := b } z) := by
  have unread : c ≠ 0x1F := by
    rintro rfl
    exact absurd hc (by decide)
  rw [← examine_z u.quiet { kind := c, body := b } u.inputs.zReport z unread,
    ← requestArrives_examined h _ ((fits_iff b).1 hb)]
  exact take_running h.1 fun u => u.requestArrives { kind := c, body := b } u.inputs.zReport

/-! ## The reply leaves (R170, R175) -/

theorem sendReply_alone {s : State} (h : s.link.held = none ∨ s.waiting.isSome = true) (r : Reply) (z : Nat) :
    s.sendReply r z = { s with link := { s.link with
      slot := none, tx := some (frameBytes r.kind r.tag r.result r.payload) } } := by
  unfold State.sendReply State.takeHeld
  rcases h with h | h
  · simp [h, State.setLink]
  · obtain ⟨w, hw⟩ := Option.isSome_iff_exists.1 h
    simp [hw, State.setLink]

theorem sendReply_held {s : State} {f : Frame} (hf : s.link.held = some f) (hw : s.waiting = none) (r : Reply) (z : Nat) :
    s.sendReply r z = State.examine { s with link := { s.link with
      slot := none, held := none, tx := some (frameBytes r.kind r.tag r.result r.payload) } } f z := by
  simp [State.sendReply, State.takeHeld, State.setLink, hf, hw]

theorem sendReply_tx (s : State) (r : Reply) (z : Nat) :
    (s.sendReply r z).link.tx = some (frameBytes r.kind r.tag r.result r.payload) :=
  takeHeld_tx _ z

/-! ## FRAME_START -/

theorem exec_frameStart {s : State} (hr : s.resetHeld = false) (ht : s.link.tx = none) (hh : s.inputs.hostReady = true)
    (z : Nat) : exec (.frameStart z) s = .next (s.quiet.sendNext z) := by
  have started : s.quiet.startFrame z = s.quiet.sendNext z := if_pos (by simp [ht, hh])
  rw [← started]
  exact take_running hr _

theorem sendNext_reply {s : State} {r : Reply} (h : s.link.slot = some r) (z : Nat) : s.sendNext z = s.sendReply r z := by
  simp only [State.sendNext, h]

section Notices

variable {s : State} (hs : s.link.slot = none)

include hs

theorem sendNext_fault (hf : s.fault.note = true) (z : Nat) : s.sendNext z = s.sendFault := by
  simp only [State.sendNext, hs, hf, if_true]

variable (hf : s.fault.note = false)

include hf

theorem sendNext_gantry (hg : s.gantryNoticePending = true) (z : Nat) : s.sendNext z = s.sendGantry := by
  simp only [State.sendNext, hs, hf, hg, Bool.false_eq_true, if_true, if_false]

variable (hg : s.gantryNoticePending = false)

include hg

theorem sendNext_lane {l : LaneNo} (hl : s.laneNoticeDue = some l) (z : Nat) : s.sendNext z = s.sendLane l := by
  simp only [State.sendNext, hs, hf, hg, hl, Bool.false_eq_true, if_false]

variable (hl : s.laneNoticeDue = none)

include hl

theorem sendNext_stack (hk : s.stackNoticePending = true) (z : Nat) : s.sendNext z = s.sendStack := by
  simp only [State.sendNext, hs, hf, hg, hl, hk, Bool.false_eq_true, if_true, if_false]

theorem sendNext_job (hk : s.stackNoticePending = false) {n : JobNotice} {rest : List JobNotice}
    (hn : s.notices.fifo = n :: rest) (z : Nat) : s.sendNext z = s.sendJob n rest := by
  simp only [State.sendNext, hs, hf, hg, hl, hk, hn, Bool.false_eq_true, if_false]

end Notices

/-! ## What leaves -/

theorem sendGantry_eq (s : State) : s.sendGantry =
    { s with
      gantry := { s.gantry with noteHomed := false, noteHalted := false }
      link := { s.link with tx := some (frameBytes 0xE4 0 0
        [byteOf ((if s.gantry.noteHomed then 1 else 0) + (if s.gantry.noteHalted then 2 else 0)),
          byteOf s.gantry.state.code]) } } := by
  rw [← bits_two]
  rfl

/-- The head of a LANE notice: lane, flags, state (R164). -/
theorem laneNotice_head (v : Lane) (l : LaneNo) :
    [byteOf (laneCode l), byteOf (bits [v.noteHanded, v.noteParked, v.noteStalled, v.noteSpurious]),
      byteOf v.state.code] =
    [byteOf (laneCode l),
      byteOf ((if v.noteHanded then 1 else 0) + (if v.noteParked then 2 else 0) + (if v.noteStalled then 4 else 0) +
        (if v.noteSpurious then 8 else 0)),
      (match v.state with | .parked => 0 | .idle => 1 | .filling _ => 2 | .handed _ => 3 : Byte)] := by
  rw [bits_four, byteOf_laneState]

/-- The hand-over report follows the head (R94, R164). -/
theorem noticeFields_handed {v : Lane} {bk : Book} (hn : v.noteHanded = true) (hbk : v.report = some bk) (l : LaneNo) :
    v.noticeFields l =
      [byteOf (laneCode l), byteOf (bits [v.noteHanded, v.noteParked, v.noteStalled, v.noteSpurious]),
        byteOf v.state.code] ++ [byteOf bk.key.type] ++ le16 bk.key.pattern ++
      [(match bk.key.rotation with | .r0 => 0 | .r90 => 90 : Byte), byteOf bk.tags.length] ++ le16 bk.height ++
      bk.tags.flatMap le16 := by
  simp only [Lane.noticeFields, hn, hbk, if_true, Book.fields, byteOf_rotation, List.append_assoc]

theorem jobNotice_fields (n : JobNotice) :
    n.fields = le16 n.tag ++
      [(match n.final with | .queued => 0 | .active => 1 | .complete => 2 | .cancelled => 3 | .failed => 4 : Byte),
        (match n.reason with | none => 0 | some .reach => 1 | some .fit => 2 : Byte)] ++
      le16 n.placed ++ le16 n.rejected ++ le16 n.lost ++ le16 n.clamped := by
  rw [JobNotice.fields, byteOf_jobState, byteOf_reason]

/-- Settles O11: the order of R176 is the order in which `State.sendNext` looks; what leaves is read off its arm. -/
theorem frameStartFollowsTheOrder : Obligations.FrameStartFollowsTheOrder := by
  unfold Obligations.FrameStartFollowsTheOrder
  refine ⟨fun s z hr ht hh => ?_, fun v l head hhead => ?_, fun s => ?_, fun n => ?_⟩
  · rw [exec_frameStart hr ht hh]
    refine ⟨fun r hs alone => ?_, fun r f u hs hheld hw hfits hu => ?_, fun r hs => ?_, fun hs hf => ?_, fun hs hf hg => ?_,
      fun l hs hf hg hl hm => ?_, fun hs hf hg hl hk => ?_, fun n rest hs hf hg hl hk hn => ?_⟩
    · rw [sendNext_reply (s := s.quiet) hs, sendReply_alone (s := s.quiet) alone]
      rfl
    · have examined : s.quiet.sendNext z = u.quiet.examine f z := by
        rw [sendNext_reply (s := s.quiet) hs, sendReply_held (s := s.quiet) hheld hw, hu]
        rfl
      have takes : u.takesAtOnce := by
        subst hu
        exact ⟨hr, rfl, rfl, hw⟩
      rw [examined]
      obtain ⟨c, b⟩ := f
      refine ⟨fun k hk => ?_, fun hc => (exec_unknownKind_examined takes hc b hfits z).symm⟩
      obtain rfl : c = k.code := hk
      exact (exec_request_examined takes k b hfits z).symm
    · rw [sendNext_reply (s := s.quiet) hs]
      exact ⟨_, rfl, sendReply_tx ..⟩
    · rw [sendNext_fault (s := s.quiet) hs hf]
      rfl
    · rw [sendNext_gantry (s := s.quiet) hs hf hg, sendGantry_eq]
      rfl
    · rw [sendNext_lane (s := s.quiet) hs hf hg (laneNoticeDue_lowest (s := s.quiet) hl hm)]
      rfl
    · rw [sendNext_stack (s := s.quiet) hs hf hg (laneNoticeDue_none (s := s.quiet) hl) hk]
      exact ⟨_, rfl, rfl, fun k => PerStack.get_map _ _ k⟩
    · rw [sendNext_job (s := s.quiet) hs hf hg (laneNoticeDue_none (s := s.quiet) hl) hk hn]
      rfl
  · obtain rfl := hhead.trans (laneNotice_head v l).symm
    refine ⟨lane_noticePending_iff v, fun hn => ?_, fun bk hn hbk => ?_⟩
    · simp [Lane.noticeFields, hn]
    · exact noticeFields_handed hn hbk l
  · exact ⟨stackNoticePending_iff s, _, _, rfl, fun k => ⟨stackFlags_getLsbD _ k, stackFlags_getLsbD _ k⟩⟩
  · exact jobNotice_fields n

end Sys2Proof.Machine
end

section
/-! The Placement Arithmetic Unit: the zones of a length, halved dimensions, the limit test, fit and reach of a lane, and the
verdict on a job (R56 to R60, R64, R66 to R68, R70, R71). -/

namespace Sys2Proof.Machine

/-! ## Zones (R56) -/

theorem zoneOpen_iff (len c : Nat) : zoneOpen len c = true ↔ 2 * (c + 1200) ≤ len := by
  simp [zoneOpen]

theorem zoneMask_getLsbD (len : Nat) {k : Nat} (hk : k < 8) :
    (zoneMask len).getLsbD k = zoneOpen len (zoneOffsets.getD k 0) := by
  have inTable : k < zoneOffsets.length := hk
  rw [zoneMask, byteOf, BitVec.getLsbD_ofNat, testBit_bits]
  simp [hk, inTable]

theorem zoneCount_eq_length_mask (len : Nat) :
    zoneCount len = ((List.range 8).filter fun k => (zoneMask len).getLsbD k).length := by
  have table : zoneOffsets = (List.range 8).map fun k => zoneOffsets.getD k 0 := rfl
  have inMask : ∀ k ∈ List.range 8, (zoneMask len).getLsbD k = zoneOpen len (zoneOffsets.getD k 0) :=
    fun k hk => zoneMask_getLsbD len (List.mem_range.1 hk)
  rw [zoneCount, table, List.filter_map, List.length_map, List.filter_congr inMask]
  rfl

theorem zoneCount_eq_count (len : Nat) : zoneCount len = (zoneOffsets.map (zoneOpen len)).count true := by
  rw [zoneCount, ← List.countP_eq_length_filter, List.count, List.countP_map]
  simp [Function.comp_def]

/-- The offsets are symmetric, so each threshold of R56 decides a pair of zones. -/
theorem openZones_eq (len : Nat) : zoneOffsets.map (zoneOpen len) =
    [decide (23400 ≤ len), decide (17400 ≤ len), decide (11400 ≤ len), decide (5400 ≤ len),
      decide (5400 ≤ len), decide (11400 ≤ len), decide (17400 ≤ len), decide (23400 ≤ len)] := rfl

theorem openZones_by_length (len : Nat) : zoneOffsets.map (zoneOpen len) =
    if len < 5400 then List.replicate 8 false
    else if len < 11400 then [false, false, false, true, true, false, false, false]
    else if len < 17400 then [false, false, true, true, true, true, false, false]
    else if len < 23400 then [false, true, true, true, true, true, true, false]
    else List.replicate 8 true := by
  rw [openZones_eq]
  split_ifs <;> simp <;> omega

/-- The numbers and the centre offsets of the table of 4.2 are those of `zoneOffsets`. -/
theorem zoneOffsets_table : ∀ p ∈ [(0, -10500), (1, -7500), (2, -4500), (3, -1500), (4, 1500), (5, 4500), (6, 7500),
    (7, (10500 : Int))], p.1 < 8 ∧ zoneOffsets.getD p.1 0 = p.2.natAbs := by
  decide

/-- Settles O16: each bit of the mask is the test of its zone, the count runs over the bits, and the four thresholds decide
every test. -/
theorem zoneMaskIsTheZoneTest : Obligations.ZoneMaskIsTheZoneTest := by
  unfold Obligations.ZoneMaskIsTheZoneTest
  intro len
  refine ⟨fun k c hkc => ?_, zoneCount_eq_length_mask len, ?_, ?_⟩
  · obtain ⟨hk, hc⟩ := zoneOffsets_table _ hkc
    rw [zoneMask_getLsbD len hk, zoneOpen_iff, hc]
    omega
  · rw [zoneMask, openZones_by_length]
    split_ifs <;> rfl
  · rw [zoneCount_eq_count, openZones_by_length]
    split_ifs <;> rfl

/-! ## Halving (R57) -/

theorem two_mul_halve_even (r : Rounding) {v : Nat} (h : v % 2 = 0) : 2 * halve r v = v := by
  unfold halve
  rw [if_pos h]
  omega

theorem two_mul_halve_towardDatum {v : Nat} (h : v % 2 = 1) : 2 * halve .towardDatum v + 1 = v := by
  rw [halve, if_neg (by omega)]
  omega

theorem two_mul_halve_away {v : Nat} (h : v % 2 = 1) : 2 * halve .away v = v + 1 := by
  rw [halve, if_neg (by omega)]
  omega

theorem halve_even_even {v : Nat} (h : v % 2 = 1) :
    halve .even v % 2 = 0 ∧ (2 * halve .even v + 1 = v ∨ 2 * halve .even v = v + 1) := by
  rw [halve, if_neg (by omega)]
  split <;> omega

/-! ## The limit test (R64) -/

theorem limitTest_inRange {v : Int} {lo hi : Nat} (tol : Nat) (hlo : (lo : Int) ≤ v) (hhi : v ≤ hi) :
    limitTest v lo hi tol = some { pos := v.toNat, clamped := false } := by
  rw [limitTest, if_neg (by omega), if_neg (by omega)]

theorem limitTest_above {v : Int} {hi : Nat} (lo tol : Nat) (h : (hi : Int) < v) :
    limitTest v lo hi tol = if v - hi ≤ tol then some { pos := hi, clamped := true } else none := by
  rw [limitTest, if_pos h]

theorem limitTest_below {v : Int} {lo hi : Nat} (tol : Nat) (hr : lo ≤ hi) (h : v < (lo : Int)) :
    limitTest v lo hi tol = if lo - v ≤ tol then some { pos := lo, clamped := true } else none := by
  rw [limitTest, if_neg (by omega), if_pos h]

/-- Settles O17: R57 by the parity of the dimension, R58 by the rotation, R64 by the side of the range the value lies on. -/
theorem halvesFootprintsAndLimits : Obligations.HalvesFootprintsAndLimits := by
  unfold Obligations.HalvesFootprintsAndLimits
  refine ⟨fun r _ h => two_mul_halve_even r h,
    fun v h => ⟨two_mul_halve_towardDatum h, two_mul_halve_away h, halve_even_even h⟩, fun _ => ⟨rfl, rfl, rfl, rfl⟩,
    fun v lo hi tol hr => ⟨fun hlo hhi => ?_, fun h near => ?_, fun h near => ?_, fun far => ?_⟩⟩
  · exact ⟨_, limitTest_inRange tol hlo hhi, Int.toNat_of_nonneg (by omega)⟩
  · rw [limitTest_above lo tol h, if_pos near]
  · rw [limitTest_below tol hr h, if_pos near]
  · rcases far with far | far
    · rw [limitTest_above lo tol (by omega), if_neg (by omega)]
    · rw [limitTest_below tol hr (by omega), if_neg (by omega)]

/-! ## Points (R59, R60) -/

theorem Sign.apply_eq (g : Sign) (n : Nat) : g.apply n = (if g = .plus then (1 : Int) else -1) * n := by
  cases g <;> simp [Sign.apply]

theorem limitPoint_none {s : State} {x y : Int} (h : s.limitX x = none ∨ s.limitY y = none) :
    s.limitPoint x y = none := by
  unfold State.limitPoint
  split
  · next hx hy => simp [hx, hy] at h
  · rfl

theorem limitPoint_some {s : State} {x y : Int} {cx cy : Coord} (hx : s.limitX x = some cx) (hy : s.limitY y = some cy) :
    s.limitPoint x y = some { x := cx, y := cy } := by
  rw [State.limitPoint, hx, hy]

theorem limitPoint_isSome (s : State) (x y : Int) :
    (s.limitPoint x y).isSome = true ↔ (s.limitX x).isSome = true ∧ (s.limitY y).isSome = true := by
  cases hx : s.limitX x with
  | none => simp [limitPoint_none (.inl hx)]
  | some cx =>
    cases hy : s.limitY y with
    | none => simp [limitPoint_none (.inr hy)]
    | some cy => simp [limitPoint_some hx hy]

/-! ## Fit, reach and growth (R66 to R68) -/

theorem LaneConfig.fits_iff (cfg : LaneConfig) (e : TypeEntry) (r : Rotation) :
    cfg.fits e r = true ↔ footX e r ≤ cfg.lt ∧ footY e r ≤ cfg.wt ∧ e.thk ≤ cfg.hmax := by
  simp [LaneConfig.fits, and_assoc]

theorem reach_eq_placePoint {s : State} {l : LaneNo} (hz : s.travel.zMin ≤ (s.lane l).cfg.zt) (e : TypeEntry)
    (r : Rotation) : s.reach l e r = s.placePoint l e r := by
  rw [State.reach, if_neg (Nat.not_lt.2 hz)]

theorem reach_isSome (s : State) (l : LaneNo) (e : TypeEntry) (r : Rotation) :
    (s.reach l e r).isSome = true ↔ (s.placePoint l e r).isSome = true ∧ s.travel.zMin ≤ (s.lane l).cfg.zt := by
  by_cases hz : s.travel.zMin ≤ (s.lane l).cfg.zt
  · simp [reach_eq_placePoint hz, hz]
  · simp [State.reach, Nat.not_le.1 hz, hz]

theorem someLaneServes_iff (s : State) (j : Job) : s.someLaneServes j = true ↔
    ∃ m, (s.lane m).configured = true ∧ (s.lane m).cfg.fits (s.typeEntry j.type) j.rotation = true ∧
      (s.reach m (s.typeEntry j.type) j.rotation).isSome = true := by
  simp only [State.someLaneServes, List.any_eq_true, mem_allLanes, true_and, Bool.and_eq_true, and_assoc]

theorem laneTakes_idle {s : State} {l : LaneNo} (h : (s.lane l).state = .idle) (j : Job) : s.laneTakes l j = true := by
  rw [State.laneTakes, h]

theorem laneTakes_filling {s : State} {l : LaneNo} {bk : Book} (h : (s.lane l).state = .filling bk) (j : Job) :
    s.laneTakes l j = true ↔ bk.key = { type := j.type, pattern := j.pattern, rotation := j.rotation } ∧
      bk.height + (s.typeEntry j.type).thk ≤ (s.lane l).cfg.hmax ∧ bk.tags.length < (s.lane l).cfg.countLimit := by
  rw [State.laneTakes, h]
  simp [LaneConfig.room, Job.key, eq_comm (a := bk.key), and_comm]

theorem laneTakes_closed {s : State} {l : LaneNo} (h : (s.lane l).state = .parked ∨ ∃ bk, (s.lane l).state = .handed bk)
    (j : Job) : s.laneTakes l j = false := by
  rcases h with h | ⟨bk, h⟩ <;> rw [State.laneTakes, h]

/-! ## The verdict, test by test (R70) -/

theorem turnedAway_fixed {s : State} {j : Job} {l : LaneNo} (hj : j.lane = some l) (r : Reason) :
    s.turnedAway j r = .fail r := by
  rw [State.turnedAway, hj]

theorem verdict_pick_unreached {s : State} {j : Job} (hp : s.pickPoint j.stack (s.typeEntry j.type) = none) (l : LaneNo) :
    s.verdict j l = .fail .reach := by
  simp only [State.verdict, hp]

section
variable {s : State} {j : Job} {l : LaneNo} {pick : Point}

theorem verdict_unfit (hp : s.pickPoint j.stack (s.typeEntry j.type) = some pick)
    (hf : ¬ (s.lane l).cfg.fits (s.typeEntry j.type) j.rotation = true) : s.verdict j l = s.turnedAway j .fit := by
  simp [State.verdict, hp, hf]

theorem verdict_place_unreached (hp : s.pickPoint j.stack (s.typeEntry j.type) = some pick)
    (hf : (s.lane l).cfg.fits (s.typeEntry j.type) j.rotation = true)
    (hr : ¬ (s.reach l (s.typeEntry j.type) j.rotation).isSome = true) : s.verdict j l = s.turnedAway j .reach := by
  rw [Option.not_isSome_iff_eq_none] at hr
  simp [State.verdict, hp, hf, hr]

/-- For lane ANY it does not matter which of tests 2 and 3 turned the job away. -/
theorem verdict_any_turnedAway (hp : s.pickPoint j.stack (s.typeEntry j.type) = some pick) (hj : j.lane = none)
    (h : ¬ ((s.lane l).cfg.fits (s.typeEntry j.type) j.rotation = true ∧
      (s.reach l (s.typeEntry j.type) j.rotation).isSome = true)) :
    s.verdict j l = if s.someLaneServes j then .skip else .fail .fit := by
  by_cases hf : (s.lane l).cfg.fits (s.typeEntry j.type) j.rotation = true
  · rw [verdict_place_unreached hp hf fun hr => h ⟨hf, hr⟩, turnedAway_any hj]
  · rw [verdict_unfit hp hf, turnedAway_any hj]

/-- Test 4, and the values of a match (R71). -/
theorem verdict_served {place : Point} (hp : s.pickPoint j.stack (s.typeEntry j.type) = some pick)
    (hf : (s.lane l).cfg.fits (s.typeEntry j.type) j.rotation = true)
    (hr : s.reach l (s.typeEntry j.type) j.rotation = some place) :
    s.verdict j l = if s.laneTakes l j then
      .found { mask := (s.typeEntry j.type).mask, pick := pick, place := place,
               ze := s.contactHeight j.stack (s.typeEntry j.type),
               placeZ := (s.lane l).cfg.zt + (s.lane l).state.height + (s.typeEntry j.type).thk }
      else .skip := by
  simp [State.verdict, hp, hf, hr]

end

/-- Settles O40: the statement's coordinates are those of `pickPoint` and `placePoint`, its `fits` and `reaches` are tests 2
and 3, and each clause is the rule of the test that decides. -/
theorem verdictFollowsItsTests : Obligations.VerdictFollowsItsTests := by
  unfold Obligations.VerdictFollowsItsTests
  intro s j l e pickX pickY placeX placeY fits reaches he hpickX hpickY hplaceX hplaceY hfits hreaches
  subst he hpickX hpickY
  simp only [← Sign.apply_eq] at hplaceX hplaceY
  have fitsTest (m : LaneNo) : fits m ↔ (s.lane m).cfg.fits (s.typeEntry j.type) j.rotation = true :=
    (hfits m).trans (LaneConfig.fits_iff ..).symm
  have reachTest (m : LaneNo) : reaches m ↔ (s.reach m (s.typeEntry j.type) j.rotation).isSome = true := by
    rw [hreaches, hplaceX, hplaceY, reach_isSome, ← and_assoc]
    exact and_congr_left' (limitPoint_isSome ..).symm
  have serves : (∃ m, (s.lane m).configured = true ∧ fits m ∧ reaches m) ↔ s.someLaneServes j = true := by
    simp only [fitsTest, reachTest, someLaneServes_iff]
  refine ⟨fun h => verdict_pick_unreached (limitPoint_none h) l, fun px py hpx hpy => ?_⟩
  have hp : s.pickPoint j.stack (s.typeEntry j.type) = some { x := px, y := py } := limitPoint_some hpx hpy
  refine ⟨fun hj hf => ?_, fun hj hf hr => ?_, fun hj h => ?_, fun qx qy hf hr hqx hqy => ?_⟩
  · rw [verdict_unfit hp (mt (fitsTest l).2 hf), turnedAway_fixed hj]
  · rw [verdict_place_unreached hp ((fitsTest l).1 hf) (mt (reachTest l).2 hr), turnedAway_fixed hj]
  · rw [fitsTest, reachTest] at h
    rw [verdict_any_turnedAway hp hj h]
    refine ⟨fun served => if_pos (serves.1 served), fun unserved => if_neg fun served => ?_⟩
    obtain ⟨m, hc, hm⟩ := serves.2 served
    exact unserved m hc hm
  · have zInRange : s.travel.zMin ≤ (s.lane l).cfg.zt := ((hreaches l).1 hr).2.2
    have place : s.reach l (s.typeEntry j.type) j.rotation = some { x := qx, y := qy } :=
      (reach_eq_placePoint zInRange _ _).trans (limitPoint_some ((hplaceX l).symm.trans hqx) ((hplaceY l).symm.trans hqy))
    rw [verdict_served hp ((fitsTest l).1 hf) place]
    refine ⟨fun idle => ?_, fun bk filling => ⟨fun room => ?_, fun full => ?_⟩, fun closed => ?_⟩
    · rw [if_pos (laneTakes_idle idle j), idle]
      rfl
    · rw [if_pos ((laneTakes_filling filling j).2 room), filling]
      rfl
    · refine if_neg fun takes => ?_
      obtain ⟨key, height, entries⟩ := (laneTakes_filling filling j).1 takes
      rcases full with other | high | many
      · exact other key
      · omega
      · omega
    · rw [laneTakes_closed closed]
      rfl

end Sys2Proof.Machine
end

section
/-! What leaves the lanes and the service lists alone: every operation of the drives, of the transfer and of the job list that is
no placement, closing, close test, take-over or selection (R75, R79). -/

namespace Sys2Proof.Machine

/-- The lanes and the service lists of one state are those of another. -/
@[reducible] def SameLanes (s u : State) : Prop :=
  u.lanes = s.lanes ∧ u.idleQueue = s.idleQueue ∧ u.fillingOrder = s.fillingOrder

theorem SameLanes.trans {s u v : State} (h : SameLanes s u) (k : SameLanes u v) : SameLanes s v :=
  ⟨k.1.trans h.1, k.2.1.trans h.2.1, k.2.2.trans h.2.2⟩

section LanesUnchanged

variable (s : State)

/-! ## Drive ports and jobs -/

@[simp] theorem State.issue_sameLanes (ts : List Target) : SameLanes s (s.issue ts) := by
  obtain ⟨g, hg, -⟩ := issue_frame s ts
  rw [hg]
  exact ⟨rfl, rfl, rfl⟩

@[simp] theorem State.issueHome_sameLanes (axes : List Axis) : SameLanes s (s.issueHome axes) := by
  obtain ⟨g, hg, -⟩ := issueHome_frame s axes
  rw [hg]
  exact ⟨rfl, rfl, rfl⟩

@[simp] theorem State.stop_sameLanes (axes : List Axis) : SameLanes s (s.stop axes) := by
  obtain ⟨g, hg, -⟩ := stop_frame s axes
  rw [hg]
  exact ⟨rfl, rfl, rfl⟩

@[simp] theorem State.stopAll_sameLanes : SameLanes s s.stopAll := by
  obtain ⟨g, hg, -⟩ := stopAll_frame s
  rw [hg]
  exact ⟨rfl, rfl, rfl⟩

@[simp] theorem State.modifyJob_sameLanes (slot : Nat) (f : Job → Job) : SameLanes s (s.modifyJob slot f) := by
  rw [modifyJob_frame]
  exact ⟨rfl, rfl, rfl⟩

@[simp] theorem State.onRecordJob_sameLanes (f : Job → Job) : SameLanes s (s.onRecordJob f) := by
  rw [onRecordJob_frame]
  exact ⟨rfl, rfl, rfl⟩

@[simp] theorem State.finishJob_sameLanes (slot : Nat) (st : JobState) (r : Option Reason) :
    SameLanes s (s.finishJob slot st r) := by
  rw [finishJob_frame]
  exact ⟨rfl, rfl, rfl⟩

/-! ## Faults and the halt -/

@[simp] theorem State.boardLost_sameLanes : SameLanes s s.boardLost := by
  simp [SameLanes, State.boardLost]

@[simp] theorem State.takeFault_sameLanes (k : FaultKind) : SameLanes s (s.takeFault k) := by
  unfold State.takeFault State.firstFault State.furtherFault
  dsimp only
  repeat' split
  all_goals simp [SameLanes]

@[simp] theorem State.inputFault_sameLanes (k : FaultKind) : SameLanes s (s.inputFault k) := by
  unfold State.inputFault
  split <;> simp [SameLanes]

@[simp] theorem State.holdLost_sameLanes : SameLanes s s.holdLost := by
  unfold State.holdLost
  split <;> simp [SameLanes]

@[simp] theorem State.faultsFound_sameLanes : SameLanes s s.faultsFound :=
  List.foldlRecOn (motive := SameLanes s) _ _ ⟨rfl, rfl, rfl⟩ fun u hu k _ => hu.trans (u.inputFault_sameLanes k)

@[simp] theorem State.halt_sameLanes : SameLanes s s.halt := by
  unfold State.halt
  split <;> simp [SameLanes]

/-! ## The phases -/

@[simp] theorem State.startGrip_sameLanes : SameLanes s s.startGrip := by
  unfold State.startGrip
  split <;> exact ⟨rfl, rfl, rfl⟩

@[simp] theorem State.startRelease_sameLanes : SameLanes s s.startRelease := ⟨rfl, rfl, rfl⟩

@[simp] theorem State.letGo_sameLanes : SameLanes s s.letGo := ⟨rfl, rfl, rfl⟩

@[simp] theorem State.markSuspect_sameLanes (k : StackNo) : SameLanes s (s.markSuspect k) := ⟨rfl, rfl, rfl⟩

@[simp] theorem State.enterRetreat_sameLanes : SameLanes s s.enterRetreat := by
  simp [SameLanes, State.enterRetreat]

@[simp] theorem State.abandonFor_sameLanes (slot tag : Nat) : SameLanes s (s.abandonFor slot tag) := by
  unfold State.abandonFor State.abandon
  repeat' split
  all_goals simp [SameLanes]

@[simp] theorem State.enterGrip_sameLanes (t : Transfer) : SameLanes s (s.enterGrip t) := by
  simp [SameLanes, State.enterGrip]

@[simp] theorem State.contactEvent_sameLanes (z : Nat) : SameLanes s (s.contactEvent z) := by
  unfold State.contactEvent
  dsimp only
  repeat' split
  all_goals simp [SameLanes]

@[simp] theorem State.contactRises_sameLanes (z : Nat) : SameLanes s (s.contactRises z) := by
  unfold State.contactRises
  split <;> simp [SameLanes]

@[simp] theorem State.issueSearch_sameLanes (z : Nat) : SameLanes s (s.issueSearch z) := by
  unfold State.issueSearch
  dsimp only
  repeat' split
  all_goals simp [SameLanes]

@[simp] theorem State.endDescent_sameLanes (t : Transfer) : SameLanes s (s.endDescent t) := by
  unfold State.endDescent
  repeat' split
  all_goals simp [SameLanes]

@[simp] theorem State.enterLift_sameLanes : SameLanes s s.enterLift := by
  unfold State.enterLift
  dsimp only
  split <;> simp [SameLanes]

@[simp] theorem State.gripExpiry_sameLanes (t : Transfer) (level : Bool) : SameLanes s (s.gripExpiry t level) := by
  unfold State.gripExpiry State.gripSuccess
  repeat' split
  all_goals simp [SameLanes]

@[simp] theorem State.enterRelease_sameLanes : SameLanes s s.enterRelease := by
  simp [SameLanes, State.enterRelease]

@[simp] theorem State.countPlaced_sameLanes (t : Transfer) : SameLanes s (s.countPlaced t) := by
  obtain ⟨store, notices, hs, -⟩ := countPlaced_frame s t
  rw [hs]
  exact ⟨rfl, rfl, rfl⟩

@[simp] theorem State.issueRejectRise_sameLanes : SameLanes s s.issueRejectRise := by
  simp [SameLanes, State.issueRejectRise]

@[simp] theorem State.enterAborting_sameLanes (t : Transfer) : SameLanes s (s.enterAborting t) := by
  simp [SameLanes, State.enterAborting]

@[simp] theorem State.enterRejectRelease_sameLanes : SameLanes s s.enterRejectRelease := by
  simp [SameLanes, State.enterRejectRelease]

@[simp] theorem State.rejectExpiry_sameLanes : SameLanes s s.rejectExpiry := by
  simp [SameLanes, State.rejectExpiry]

@[simp] theorem State.resolveCancel_sameLanes (t : Transfer) : SameLanes s (s.resolveCancel t) := by
  unfold State.resolveCancel
  repeat' split
  all_goals simp [SameLanes]

/-! ## Homing, resume and dry run -/

@[simp] theorem State.homeZ_sameLanes : SameLanes s s.homeZ := by
  simp [SameLanes, State.homeZ]

@[simp] theorem State.homed_sameLanes : SameLanes s s.homed := ⟨rfl, rfl, rfl⟩

@[simp] theorem State.resumePhase_sameLanes (t : Transfer) (z : Nat) : SameLanes s (s.resumePhase t z) := by
  unfold State.resumePhase State.issueToStack State.issueToLane State.issueRise State.issueRejectLower
  split <;> simp [SameLanes]

@[simp] theorem State.resumeWork_sameLanes (r : Remembered) (z : Nat) : SameLanes s (s.resumeWork r z) := by
  have record (u : State) : SameLanes u (u.resumeRecord z) := by
    unfold State.resumeRecord
    split <;> simp [SameLanes]
  cases r <;> simp [SameLanes, State.resumeWork, record]

@[simp] theorem State.setDryRun_sameLanes (b : Bool) : SameLanes s (s.setDryRun b) := by
  unfold State.setDryRun State.enterDryRun State.leaveDryRun
  dsimp only
  repeat' split
  all_goals exact ⟨rfl, rfl, rfl⟩

@[simp] theorem State.travelChanged_sameLanes (z : Nat) : SameLanes s (s.travelChanged z) := by
  unfold State.travelChanged
  repeat' split
  all_goals exact ⟨rfl, rfl, rfl⟩

@[simp] theorem State.scan_sameLanes : SameLanes s s.scan.state := by
  obtain ⟨store, notices, hu, -⟩ := (scan_sound s).cell
  rw [hu]
  exact ⟨rfl, rfl, rfl⟩

@[simp] theorem State.settleInFlight_sameLanes : SameLanes s s.settleInFlight := by
  unfold State.settleInFlight
  repeat' split
  all_goals simp [SameLanes]

@[simp] theorem State.placeReply_sameLanes (f : Frame) (r : Result) (p : List Byte) :
    SameLanes s (s.placeReply f r p) := by
  unfold State.placeReply
  dsimp only
  split <;> exact ⟨rfl, rfl, rfl⟩

end LanesUnchanged

/-! ## The answers of the blocks -/

theorem amended_sameLanes (s : State) (e : Located) (a : Amendment) : SameLanes s (s.amended e a) := by
  unfold State.amended
  dsimp only
  split <;> simp [SameLanes]

theorem abortTransfer_sameLanes (s : State) (t : Transfer) : SameLanes s (s.abortTransfer t).state := by
  unfold State.abortTransfer
  split
  case h_1 | h_2 | h_3 => exact s.enterRetreat_sameLanes
  case h_4 | h_5 | h_6 => exact s.enterAborting_sameLanes t
  all_goals exact ⟨rfl, rfl, rfl⟩

/-- The requests of the other blocks leave lanes and service lists alone. -/
theorem answerOf_sameLanes {k : RequestKind}
    (hk : k ∉ [RequestKind.setLane, .parkLane, .unparkLane, .closeBook, .restart, .clearFault]) (f : Frame) (z : Nat)
    (s : State) : SameLanes s (answerOf k f z s).state := by
  cases k
  case setLane | parkLane | unparkLane | closeBook | restart | clearFault => simp at hk
  case queryStatus | readFault | readConfig | readTypes | listJobs | readStacks | run | hold => exact ⟨rfl, rfl, rfl⟩
  case halt => exact s.halt_sameLanes
  case setModes | setTravel =>
    simp only [answerOf, answerSetModes, answerSetTravel]
    repeat' split
    all_goals simp [SameLanes, refuse, accept]
  case amendJob | cancelJob =>
    simp only [answerOf, answerAmendJob, answerCancelJob]
    repeat' split
    all_goals simp [SameLanes, refuse, defer, acceptWake, State.cancelled, amended_sameLanes]
  case home | resume | releaseHeld =>
    simp only [answerOf, answerHome, answerResume, answerReleaseHeld]
    repeat' split
    all_goals simp [SameLanes, refuse, accept, State.haltedRelease]
  case abort =>
    simp only [answerOf, answerAbort]
    repeat' split
    · exact abortTransfer_sameLanes s _
    all_goals exact ⟨rfl, rfl, rfl⟩
  case partitionStore | defineType | dropType | setTypeCursor | enqueueJob | readJob | setListCursor | setStack | loadStack |
      unloadStack | readLane =>
    simp only [answerOf, answerPartitionStore, answerDefineType, answerDropType, answerSetTypeCursor, answerEnqueueJob,
      answerReadJob, answerSetListCursor, answerSetStack, answerLoadStack, answerUnloadStack, answerReadLane]
    repeat' split
    all_goals exact ⟨rfl, rfl, rfl⟩

end Sys2Proof.Machine
end

section
/-! The service lists when a lane changes (R75, R79, R93): it stays in a list, joins it or leaves it. -/

namespace Sys2Proof.Machine

/-! ## A list of the lanes that have a property -/

/-- The lane belongs in the idle queue (R79). -/
def Lane.waits (v : Lane) : Prop :=
  v.state = .idle ∧ v.parkRequest = false

/-- The lane belongs in the filling order (R79). -/
def Lane.fills (v : Lane) : Prop :=
  ∃ b, v.state = .filling b

/-- A PARKED lane carries no park-request, any other lane is configured (R75, R93). -/
structure Lane.Sound (v : Lane) : Prop where
  parked : v.state = .parked → v.parkRequest = false
  configured : v.state ≠ .parked → v.configured = true

/-- The list holds exactly the lanes with the property, each once. -/
structure Lists (lanes : PerLane Lane) (p : Lane → Prop) (q : List LaneNo) : Prop where
  mem : ∀ l, l ∈ q ↔ p (lanes.get l)
  once : q.Nodup

theorem PerLane.get_set {α : Type} (t : PerLane α) (l m : LaneNo) (v : α) :
    (t.set l v).get m = if m = l then v else t.get m := by
  split
  · next h => rw [h, PerLane.get_set_self]
  · next h => exact PerLane.get_set_other t l m v h

section OneLane

variable {lanes : PerLane Lane} {p : Lane → Prop} {q : List LaneNo} {l : LaneNo} {v : Lane}

/-- A lane that keeps the property, or goes on lacking it, leaves the list as it is. -/
theorem Lists.keep (h : Lists lanes p q) (hv : p v ↔ p (lanes.get l)) : Lists (lanes.set l v) p q where
  mem m := by
    rw [h.mem, PerLane.get_set]
    split
    · next hm => rw [hm, hv]
    · rfl
  once := h.once

/-- A lane that gains the property joins the list at its tail. -/
theorem Lists.join (h : Lists lanes p q) (old : ¬ p (lanes.get l)) (new : p v) : Lists (lanes.set l v) p (q ++ [l]) where
  mem m := by
    rw [List.mem_append, List.mem_singleton, h.mem, PerLane.get_set]
    split
    · next hm => simp [hm, new]
    · next hm => simp [hm]
  once := List.nodup_append'.2 ⟨h.once, List.nodup_singleton l, by simpa [h.mem] using old⟩

/-- A lane that lacks the property is taken out of the list. -/
theorem Lists.leave (h : Lists lanes p q) (new : ¬ p v) : Lists (lanes.set l v) p (q.filter fun m => m != l) where
  mem m := by
    rw [List.mem_filter, h.mem, PerLane.get_set]
    split
    · next hm => simp [hm, new]
    · next hm => simp [hm]
  once := h.once.filter _

end OneLane

/-- A change of every lane that keeps the property and its lack leaves the list as it is. -/
theorem Lists.map {lanes : PerLane Lane} {p : Lane → Prop} {q : List LaneNo} (h : Lists lanes p q) {f : Lane → Lane}
    (hf : ∀ v, p (f v) ↔ p v) : Lists (lanes.map f) p q where
  mem m := by rw [h.mem, PerLane.get_map, hf]
  once := h.once

theorem listsExact_iff (s : State) : s.ListsExact ↔
    Lists s.lanes Lane.waits (s.idleQueue.map IdleEntry.lane) ∧ Lists s.lanes Lane.fills s.fillingOrder ∧
      ∀ l, (s.lane l).Sound :=
  ⟨fun h => ⟨⟨h.idle, h.idleOnce⟩, ⟨h.filling, h.fillingOnce⟩, fun l => ⟨h.parked l, h.configured l⟩⟩,
    fun ⟨idle, filling, sound⟩ => ⟨idle.mem, filling.mem, idle.once, filling.once, fun l => (sound l).parked,
      fun l => (sound l).configured⟩⟩

theorem map_lane_filter (q : List IdleEntry) (l : LaneNo) :
    (q.filter fun e => e.lane != l).map IdleEntry.lane = (q.map IdleEntry.lane).filter fun m => m != l := by
  rw [List.filter_map]
  rfl

/-! ## One lane of an exact state changes -/

namespace State.ListsExact

variable {s u : State}

/-- The lists speak of the lanes and of the places in the lists alone. -/
theorem of_places (h : s.ListsExact) (lanes : u.lanes = s.lanes)
    (idle : u.idleQueue.map IdleEntry.lane = s.idleQueue.map IdleEntry.lane) (filling : u.fillingOrder = s.fillingOrder) :
    u.ListsExact := by
  rw [listsExact_iff] at h ⊢
  simpa only [State.lane, lanes, idle, filling] using h

theorem of_same (h : s.ListsExact) (e : SameLanes s u) : u.ListsExact :=
  h.of_places e.1 (congrArg _ e.2.1) e.2.2

theorem sound_set (h : s.ListsExact) {l : LaneNo} {v : Lane} (hv : v.Sound) (m : LaneNo) :
    ((s.lanes.set l v).get m).Sound := by
  rw [PerLane.get_set]
  split
  · exact hv
  · exact ((listsExact_iff s).1 h).2.2 m

/-- A lane changes that belongs in the same lists as before. -/
theorem setLane (h : s.ListsExact) {l : LaneNo} {v : Lane} (waits : v.waits ↔ (s.lane l).waits)
    (fills : v.fills ↔ (s.lane l).fills) (hv : v.Sound) : (s.setLane l v).ListsExact :=
  have ⟨idle, filling, _⟩ := (listsExact_iff s).1 h
  (listsExact_iff _).2 ⟨idle.keep waits, filling.keep fills, h.sound_set hv⟩

/-- A lane keeps its state, its park-request and whether it is configured. -/
theorem setLane_alike (h : s.ListsExact) {l : LaneNo} {v : Lane} (state : v.state = (s.lane l).state)
    (park : v.parkRequest = (s.lane l).parkRequest) (configured : v.configured = (s.lane l).configured) :
    (s.setLane l v).ListsExact := by
  refine h.setLane ?_ ?_ ⟨?_, ?_⟩
  · rw [Lane.waits, Lane.waits, state, park]
  · rw [Lane.fills, Lane.fills, state]
  · rw [state, park]
    exact h.parked l
  · rw [state, configured]
    exact h.configured l

/-- A lane that was in neither list joins the idle queue. -/
theorem setLane_joinIdle (h : s.ListsExact) {l : LaneNo} {v : Lane} (waited : ¬ (s.lane l).waits)
    (filled : ¬ (s.lane l).fills) (state : v.state = .idle) (park : v.parkRequest = false) (hc : v.configured = true) :
    ((s.setLane l v).joinIdle l).ListsExact := by
  obtain ⟨idle, filling, -⟩ := (listsExact_iff s).1 h
  have fills : ¬ v.fills := by simp [Lane.fills, state]
  refine (listsExact_iff _).2 ⟨?_, filling.keep (iff_of_false fills filled), h.sound_set ⟨fun _ => park, fun _ => hc⟩⟩
  rw [State.joinIdle_idleQueue, List.map_append]
  exact idle.join waited ⟨state, park⟩

/-- An IDLE lane leaves the idle queue. -/
theorem setLane_leaveIdle (h : s.ListsExact) {l : LaneNo} {v : Lane} (waits : ¬ v.waits)
    (fills : v.fills ↔ (s.lane l).fills) (hv : v.Sound) : ((s.setLane l v).leaveIdle l).ListsExact := by
  obtain ⟨idle, filling, -⟩ := (listsExact_iff s).1 h
  refine (listsExact_iff _).2 ⟨?_, filling.keep fills, h.sound_set hv⟩
  rw [State.leaveIdle_idleQueue, map_lane_filter]
  exact idle.leave waits

/-! ## Books -/

theorem closeBook (h : s.ListsExact) (l : LaneNo) : (s.closeBook l).ListsExact := by
  unfold State.closeBook
  split
  · next b hb =>
    obtain ⟨idle, filling, -⟩ := (listsExact_iff s).1 h
    have configured := h.configured l (by simp [hb])
    have waits : ((s.lane l).handOver b s.gantry.dryRun).waits ↔ (s.lane l).waits := by
      simp [Lane.waits, Lane.handOver, hb]
    have fills : ¬ ((s.lane l).handOver b s.gantry.dryRun).fills := by simp [Lane.fills, Lane.handOver]
    exact (listsExact_iff _).2 ⟨idle.keep waits, filling.leave fills, h.sound_set ⟨nofun, fun _ => configured⟩⟩
  all_goals exact h

theorem place (h : s.ListsExact) (t : Transfer) : (s.place t).ListsExact := by
  unfold State.place
  dsimp only
  split
  · next hb =>
    obtain ⟨idle, filling, -⟩ := (listsExact_iff s).1 h
    have configured := h.configured t.lane (by simp [hb])
    have filled : ¬ (s.lane t.lane).fills := by simp [Lane.fills, hb]
    refine (listsExact_iff _).2 ⟨?_, filling.join filled ⟨_, rfl⟩, h.sound_set ⟨nofun, fun _ => configured⟩⟩
    rw [State.joinFilling_idleQueue, State.leaveIdle_idleQueue, map_lane_filter]
    exact idle.leave (by simp [Lane.waits])
  · next b hb =>
    have configured := h.configured t.lane (by simp [hb])
    exact h.setLane (by simp [Lane.waits, hb]) (by simp [Lane.fills, hb]) ⟨nofun, fun _ => configured⟩
  all_goals exact h

theorem parkNow (h : s.ListsExact) {l : LaneNo} {v : Lane} (waited : ¬ (s.lane l).waits) (filled : ¬ (s.lane l).fills) :
    (s.setLane l v.parkNow).ListsExact := by
  refine h.setLane (iff_of_false ?_ waited) (iff_of_false ?_ filled) ⟨fun _ => rfl, fun hp => absurd rfl hp⟩
  · simp [Lane.waits, Lane.parkNow]
  · simp [Lane.fills, Lane.parkNow]

theorem closeTest (h : s.ListsExact) (l : LaneNo) : (s.closeTest l).ListsExact := by
  have park : (s.closeTestPark l).ListsExact := by
    unfold State.closeTestPark
    split
    · next hp => exact h.parkNow (by simp [Lane.waits, hp]) (by simp [Lane.fills, hp])
    · exact h
  have book {u : State} (h : u.ListsExact) : (u.closeTestBook l).ListsExact := by
    unfold State.closeTestBook
    repeat' split
    · exact h.closeBook l
    all_goals exact h
  have timer {u : State} (h : u.ListsExact) : (u.closeTestTimer l).ListsExact := by
    unfold State.closeTestTimer
    repeat' split
    · exact h.setLane_alike rfl rfl rfl
    all_goals exact h
  exact (timer (book park)).setLane_alike rfl rfl rfl

/-- A HANDED lane that is taken over parks or joins the idle queue (R88). -/
theorem takeOver (h : s.ListsExact) {l : LaneNo} {b : Book} (hb : (s.lane l).state = .handed b) :
    (s.takeOver l).1.ListsExact := by
  have waited : ¬ (s.lane l).waits := by simp [Lane.waits, hb]
  have filled : ¬ (s.lane l).fills := by simp [Lane.fills, hb]
  unfold State.takeOver
  dsimp only
  split
  · exact h.parkNow waited filled
  · next hp => exact h.setLane_joinIdle waited filled rfl (by simpa using hp) (h.configured l (by simp [hb]))

/-! ## The end of a transfer and selection -/

theorem releaseExpiry (h : s.ListsExact) (t : Transfer) : (s.releaseExpiry t).ListsExact := by
  have counted : ({ s with blowOff := false, releaseCounter := .stopped } : State).ListsExact := h.of_same ⟨rfl, rfl, rfl⟩
  exact ((counted.of_same (State.countPlaced_sameLanes _ t)).place t).of_same
    (by simp [SameLanes, State.releaseExpiry, State.issueRise])

theorem closeRecord (h : s.ListsExact) (t : Transfer) : (s.closeRecord t).ListsExact :=
  ((h.of_same (s.resolveCancel_sameLanes t)).closeTest t.lane).of_same ⟨rfl, rfl, rfl⟩

theorem endTransfer (h : s.ListsExact) (t : Transfer) : (s.endTransfer t).ListsExact :=
  (h.closeRecord t).of_same ⟨rfl, rfl, rfl⟩

theorem select (h : s.ListsExact) (x : Hit) : (s.select x).ListsExact := by
  have inbound : (s.setLane x.lane { s.lane x.lane with inbound := true, bookTimer := none }).ListsExact :=
    h.setLane_alike rfl rfl rfl
  exact inbound.of_same (by simp [SameLanes, State.select, State.issueToStack])

theorem attempts (h : s.ListsExact) (fuel : Nat) : (State.attempts fuel s).ListsExact := by
  induction fuel generalizing s with
  | zero => exact h
  | succ fuel ih =>
    have scanned := h.of_same s.scan_sameLanes
    simp only [State.attempts]
    repeat' split
    · exact scanned.select _
    · exact ih scanned
    · exact scanned

theorem reevaluate (h : s.ListsExact) : s.reevaluate.ListsExact := by
  unfold State.reevaluate
  split
  · exact h.attempts _
  · exact h

/-! ## The completion of a move -/

theorem completePhase (h : s.ListsExact) (t : Transfer) : (s.completePhase t).ListsExact := by
  unfold State.completePhase
  split
  case h_7 | h_8 => exact (h.endTransfer t).reevaluate
  all_goals exact h.of_same (by simp [SameLanes, State.enterSearch, State.issueDescent, State.issueToLane])

theorem completePutDown (h : s.ListsExact) (t : Transfer) : (s.completePutDown t).ListsExact := by
  unfold State.completePutDown
  split
  case h_4 => exact (h.endTransfer t).reevaluate
  all_goals exact h.of_same (by simp [SameLanes, State.issueTraverse, State.issueRejectLower])

theorem completeMove (h : s.ListsExact) : s.completeMove.ListsExact := by
  have still : (s.setMove .still).ListsExact := h.of_same ⟨rfl, rfl, rfl⟩
  unfold State.completeMove
  dsimp only
  split
  case h_3 => exact (still.of_same (State.homed_sameLanes _)).reevaluate
  case h_4 => exact still.completePhase _
  case h_5 => exact still.completePutDown _
  all_goals exact still.of_same (by simp [SameLanes, State.homeRest, State.homeRise])

theorem axisReported (h : s.ListsExact) (a : Axis) : (s.axisReported a).ListsExact := by
  unfold State.axisReported
  repeat' split
  · exact h.completeMove
  all_goals exact h.of_same ⟨rfl, rfl, rfl⟩

/-! ## The answers of the blocks -/

theorem answerSetLane (h : s.ListsExact) (f : Frame) : (answerSetLane f s).state.ListsExact := by
  unfold Machine.answerSetLane
  dsimp only
  split
  · exact h
  · next l _ =>
    split
    · exact h
    · next hs =>
      have parked : (s.lane l).state = .parked := by simpa using hs
      split
      · exact h
      · split
        · exact h
        · split
          · exact h
          · exact h.setLane (by simp [Lane.waits]) (by simp [Lane.fills]) ⟨fun _ => h.parked l parked, fun _ => rfl⟩

theorem parkLane (h : s.ListsExact) (l : LaneNo) : (s.parkLane l).state.ListsExact := by
  have requested (hs : (s.lane l).state ≠ .parked) (hi : (s.lane l).state ≠ .idle) :
      (s.setLane l { s.lane l with parkRequest := true }).ListsExact :=
    h.setLane (by simp [Lane.waits, hi]) (by simp [Lane.fills]) ⟨fun hp => absurd hp hs, h.configured l⟩
  unfold State.parkLane
  dsimp only
  split
  · exact h
  · next hs =>
    have filled : ¬ (s.lane l).fills := by simp [Lane.fills, hs]
    repeat' split
    · exact h
    · exact h.setLane_leaveIdle (by simp [Lane.waits]) (by simp [Lane.fills])
        ⟨fun hp => absurd (hs.symm.trans hp) nofun, h.configured l⟩
    · next hp _ =>
      exact h.setLane_leaveIdle (by simp [Lane.waits]) (iff_of_false (by simp [Lane.fills]) filled)
        ⟨fun _ => by simpa using hp, fun hn => absurd rfl hn⟩
  · next b hs =>
    have requested := requested (by simp [hs]) (by simp [hs])
    repeat' split
    · exact h
    · exact requested
    · exact requested.closeBook l
  · next b hs =>
    split
    · exact h
    · exact requested (by simp [hs]) (by simp [hs])

theorem unparkLane (h : s.ListsExact) (l : LaneNo) : (s.unparkLane l).state.ListsExact := by
  unfold State.unparkLane
  dsimp only
  split
  · exact h
  · next hc =>
    have configured : (s.lane l).configured = true := by simpa using hc
    have withdrawn (hi : (s.lane l).state ≠ .idle) : (s.setLane l { s.lane l with parkRequest := false }).ListsExact :=
      h.setLane (by simp [Lane.waits, hi]) (by simp [Lane.fills]) ⟨fun _ => rfl, fun _ => configured⟩
    split
    · next hs =>
      exact h.setLane_joinIdle (by simp [Lane.waits, hs]) (by simp [Lane.fills, hs]) rfl (h.parked l hs) configured
    · next hs =>
      split
      · next hp =>
        exact h.setLane_joinIdle (by simp [Lane.waits, hp]) (by simp [Lane.fills, hs]) hs rfl configured
      · exact h
    · next hs => exact withdrawn (by simp [hs])
    · next hs => exact withdrawn (by simp [hs])

theorem requestClose (h : s.ListsExact) (l : LaneNo) : (s.requestClose l).state.ListsExact := by
  unfold State.requestClose
  repeat' split
  · exact h.setLane_alike rfl rfl rfl
  · exact h.closeBook l
  all_goals exact h

/-- With every lane PARKED both lists are empty. -/
theorem of_parked (parked : ∀ l, (s.lane l).state = .parked) (park : ∀ l, (s.lane l).parkRequest = false)
    (idle : s.idleQueue = []) (filling : s.fillingOrder = []) : s.ListsExact where
  idle l := by simp [idle, parked]
  filling l := by simp [filling, parked]
  idleOnce := by simp [idle]
  fillingOnce := by simp [filling]
  parked l _ := park l
  configured l h := absurd (parked l) h

theorem answerRestart (h : s.ListsExact) (f : Frame) : (answerRestart f s).state.ListsExact := by
  unfold Machine.answerRestart
  repeat' split
  · exact h
  · exact h
  · have lane := restarted_lane s f
    exact of_parked (fun l => congrArg Lane.state (lane l)) (fun l => congrArg Lane.parkRequest (lane l)) rfl rfl

theorem answerClearFault (h : s.ListsExact) (f : Frame) : (answerClearFault f s).state.ListsExact := by
  have settled : s.settleRecord.ListsExact := by
    unfold State.settleRecord
    split
    · exact h
    · exact (h.of_same s.settleInFlight_sameLanes).closeRecord _
  unfold Machine.answerClearFault
  repeat' split
  case isFalse.isFalse.isFalse => exact settled.of_same ⟨rfl, rfl, rfl⟩
  all_goals exact h

end State.ListsExact

end Sys2Proof.Machine
end

section
/-! The service lists through every step: the decoder and the receiver, the cell's events, time, every command (R75, R79, R93). -/

namespace Sys2Proof.Machine

theorem map_lane_raiseAges (l : LaneNo) (ms : Nat) (q : List IdleEntry) :
    (raiseAges l ms q).map IdleEntry.lane = q.map IdleEntry.lane := by
  induction q with
  | nil => rfl
  | cons e r ih =>
    rw [raiseAges, List.map_cons, List.map_cons]
    split
    · rfl
    · rw [ih]

namespace State.ListsExact

variable {s t : State}

theorem answerOf (h : s.ListsExact) (k : RequestKind) (f : Frame) (z : Nat) : (answerOf k f z s).state.ListsExact := by
  cases k
  case setLane => exact h.answerSetLane f
  case parkLane =>
    simp only [Machine.answerOf, answerParkLane]
    split
    · exact h
    · exact h.parkLane _
  case unparkLane =>
    simp only [Machine.answerOf, answerUnparkLane]
    split
    · exact h
    · exact h.unparkLane _
  case closeBook =>
    simp only [Machine.answerOf, answerCloseBook]
    split
    · exact h
    · exact h.requestClose _
  case restart => exact h.answerRestart f
  case clearFault => exact h.answerClearFault f
  all_goals exact h.of_same (answerOf_sameLanes (by decide) f z s)

/-! ## The decoder, the receiver and the clearing -/

theorem placeReply (h : s.ListsExact) (f : Frame) (r : Result) (p : List Byte) : (s.placeReply f r p).ListsExact :=
  h.of_same (s.placeReply_sameLanes f r p)

theorem setLink (h : s.ListsExact) (k : Link) : (s.setLink k).ListsExact :=
  h.of_same ⟨rfl, rfl, rfl⟩

theorem examine (h : s.ListsExact) (f : Frame) (z : Nat) : (s.examine f z).ListsExact := by
  have deliver {a : Answer} (ha : a.state.ListsExact) : (a.deliver f).ListsExact := by
    unfold Answer.deliver
    dsimp only
    repeat' split
    · exact ha
    · exact (ha.placeReply ..).reevaluate
    · exact ha.placeReply ..
  unfold State.examine
  repeat' split
  · exact h.placeReply ..
  · exact h.placeReply ..
  · exact h.placeReply ..
  · exact deliver (h.answerOf _ f z)

theorem takeHeld (h : s.ListsExact) (z : Nat) : (s.takeHeld z).ListsExact := by
  unfold State.takeHeld
  split
  · exact (h.setLink _).examine _ z
  · exact h

theorem frameComplete (h : s.ListsExact) (f : Frame) (z : Nat) : (s.frameComplete f z).ListsExact := by
  unfold State.frameComplete
  split
  · exact h.setLink _
  · exact (h.setLink _).takeHeld z

theorem requestArrives (h : s.ListsExact) (f : Frame) (z : Nat) : (s.requestArrives f z).ListsExact := by
  unfold State.requestArrives
  split
  · exact h.setLink _
  · exact h.frameComplete f z

theorem takeCharacter (h : s.ListsExact) (v : Byte) (ok : Bool) (z : Nat) : (s.takeCharacter v ok z).ListsExact := by
  unfold State.takeCharacter State.assemble
  repeat' split
  case h_2.isTrue.isFalse.isTrue.isTrue => exact (h.setLink _).frameComplete _ z
  all_goals exact h.of_same ⟨rfl, rfl, rfl⟩

theorem gapExpires (h : s.ListsExact) : s.gapExpires.ListsExact := by
  unfold State.gapExpires
  split <;> exact h.of_same ⟨rfl, rfl, rfl⟩

theorem clearingEnds (h : s.ListsExact) : s.clearingEnds.ListsExact := by
  unfold State.clearingEnds State.clearingReply
  repeat' split
  all_goals exact h.of_same (by simp [SameLanes])

theorem placeWaiting (h : s.ListsExact) : s.placeWaiting.ListsExact := by
  unfold State.placeWaiting
  split <;> exact h.of_same (by simp [SameLanes])

theorem startFrame (h : s.ListsExact) (z : Nat) : (s.startFrame z).ListsExact := by
  have sentLane (l : LaneNo) : (s.sendLane l).ListsExact :=
    State.ListsExact.setLink (h.setLane_alike rfl rfl rfl : (s.setLane l (s.lane l).noticeSent).ListsExact) _
  have same {u : State} (e : SameLanes s u) : u.ListsExact := h.of_same e
  unfold State.startFrame State.sendNext
  split
  · split
    · exact (h.setLink _).takeHeld z
    · split
      · exact same ⟨rfl, rfl, rfl⟩
      · split
        · exact same ⟨rfl, rfl, rfl⟩
        · split
          · exact sentLane _
          · repeat' split
            all_goals exact same ⟨rfl, rfl, rfl⟩
  · exact h

/-! ## The cell's events -/

theorem inPosition (h : s.ListsExact) (a : Axis) (stale : Bool) : (s.inPosition a stale).ListsExact := by
  unfold State.inPosition
  split
  · exact h
  · exact h.axisReported a

theorem homedReport (h : s.ListsExact) (a : Axis) (stale : Bool) : (s.homedReport a stale).ListsExact := by
  unfold State.homedReport
  split
  · exact h
  · exact h.axisReported a

theorem sawRises (h : s.ListsExact) : s.sawRises.ListsExact := by
  unfold State.sawRises
  split
  · exact h
  · exact h.reevaluate

theorem gripSettles (h : s.ListsExact) (level : Bool) : (s.gripSettles level).ListsExact := by
  unfold State.gripSettles
  repeat' split
  · exact h.of_same (s.gripExpiry_sameLanes _ level)
  all_goals exact h

theorem releaseSettles (h : s.ListsExact) : s.releaseSettles.ListsExact := by
  unfold State.releaseSettles
  repeat' split
  case h_1.isTrue => exact h.releaseExpiry _
  case h_2.isTrue => exact h.of_same s.rejectExpiry_sameLanes
  all_goals exact h

theorem dryMoveEnds (h : s.ListsExact) : s.dryMoveEnds.ListsExact := by
  unfold State.dryMoveEnds
  split
  · exact (h.of_same ⟨rfl, rfl, rfl⟩ : (s.headTakes _).ListsExact).completeMove
  all_goals exact h

theorem takeOverEvent (h : s.ListsExact) {l : LaneNo} {b : Book} (hb : (s.lane l).state = .handed b) :
    (s.takeOverEvent l).ListsExact := by
  unfold State.takeOverEvent
  split
  · exact (h.takeOver hb).reevaluate
  · exact h.takeOver hb

theorem taken (h : s.ListsExact) (l : LaneNo) : (s.taken l).ListsExact := by
  unfold State.taken
  split
  · split
    · next hb => exact h.takeOverEvent hb
    all_goals exact h.setLane_alike rfl rfl rfl
  · exact h

theorem laneTimerExpires (h : s.ListsExact) (l : LaneNo) : (s.laneTimerExpires l).ListsExact := by
  unfold State.laneTimerExpires
  split
  · next hb _ =>
    split
    · exact h.setLane_alike rfl rfl rfl
    · exact h.takeOverEvent hb
  · exact h

theorem bookWaitExpires (h : s.ListsExact) (l : LaneNo) : (s.bookWaitExpires l).ListsExact := by
  unfold State.bookWaitExpires
  split
  · exact h.closeBook l
  · exact h

theorem crosses (h : s.ListsExact) (l : LaneNo) : (s.crosses l).ListsExact := by
  unfold State.crosses
  split
  · exact (h.of_places rfl (map_lane_raiseAges ..) rfl :
      ({ s with idleQueue := raiseAges l (msOf s.modes.starve) s.idleQueue } : State).ListsExact).reevaluate
  · exact h

/-- The timers of the lanes and the idle ages are no part of the lists. -/
theorem tick (h : s.ListsExact) : s.tick.ListsExact := by
  unfold State.tick
  split
  · exact h
  · obtain ⟨idle, filling, sound⟩ := (listsExact_iff s).1 h
    have places : (s.idleQueue.map IdleEntry.tick).map IdleEntry.lane = s.idleQueue.map IdleEntry.lane := by
      rw [List.map_map]
      rfl
    have ticked (l : LaneNo) : ((s.lanes.map Lane.tick).get l).Sound := by
      rw [PerLane.get_map]
      exact ⟨(sound l).parked, (sound l).configured⟩
    exact (listsExact_iff _).2 ⟨places ▸ idle.map fun _ => Iff.rfl, filling.map fun _ => Iff.rfl, ticked⟩

theorem poweredOn (s : State) (strap1 strap0 : Bool) : (s.poweredOn strap1 strap0).ListsExact :=
  of_parked (fun l => by cases l <;> rfl) (fun l => by cases l <;> rfl) rfl rfl

/-! ## Every command -/

/-- A command taken outside reset keeps the lists exact when its effect does. -/
theorem take (h : s.ListsExact) {f : State → State} (e : s.take f = .next t)
    (hf : ∀ u : State, u.ListsExact → (f u).ListsExact) : t.ListsExact := by
  have quiet : s.quiet.ListsExact := h.of_same ⟨rfl, rfl, rfl⟩
  unfold State.take at e
  cases e
  split
  · exact quiet
  · exact hf _ quiet

/-- A line's command keeps the lists exact when its event does. -/
theorem onLine (h : s.ListsExact) {i : Inputs} {f : State → State} (e : s.onLine i f = .next t)
    (hf : ∀ u : State, u.ListsExact → (f u).ListsExact) : t.ListsExact := by
  have levels : ({ s.quiet with inputs := i } : State).ListsExact := h.of_same ⟨rfl, rfl, rfl⟩
  unfold State.onLine at e
  cases e
  split
  · exact levels
  · exact hf _ levels

/-- An effect made on an asserted level only. -/
theorem ifLevel {f : State → State} (hf : ∀ u : State, SameLanes u (f u)) (level : Bool) (u : State)
    (hu : u.ListsExact) : (if level then f u else u).ListsExact := by
  split
  · exact hu.of_same (hf u)
  · exact hu

theorem exec (h : s.ListsExact) (c : Instr) (e : exec c s = .next t) : t.ListsExact := by
  cases c
  case powerOnReset => cases e; exact poweredOn ..
  case resetPinAsserted | hostReadyAsserted => cases e; exact h.of_same ⟨rfl, rfl, rfl⟩
  case characterReceived v ok z =>
    exact h.take (f := fun u => u.takeCharacter v ok z) e fun u hu => hu.takeCharacter v ok z
  case gapTimerExpiry => exact h.take (f := State.gapExpires) e fun u hu => hu.gapExpires
  case lineBreak => exact h.take (f := fun u => u.dropFrame .break) e fun u hu => hu.setLink _
  case storeClearingEnd => exact h.take (f := State.clearingEnds) e fun u hu => hu.clearingEnds
  case waitingReplyPlaced => exact h.take (f := State.placeWaiting) e fun u hu => hu.placeWaiting
  case frameStart z => exact h.take (f := fun u => u.startFrame z) e fun u hu => hu.startFrame z
  case frameSent => exact h.take (f := State.endFrame) e fun u hu => hu.setLink _
  case starveCrossing l => exact h.take (f := fun u => u.crosses l) e fun u hu => hu.crosses l
  case safetyLineAsserted => exact h.onLine (f := State.halt) e fun u hu => hu.of_same u.halt_sameLanes
  case safetyLineReleased | sawReadyFall => exact h.onLine (f := id) e fun u hu => hu
  case inPositionReport a stale z =>
    exact h.onLine (f := fun u => u.inPosition a stale) e fun u hu => hu.inPosition a stale
  case dryMoveElapsed => exact h.take (f := State.dryMoveEnds) e fun u hu => hu.dryMoveEnds
  case homedReport a stale => exact h.take (f := fun u => u.homedReport a stale) e fun u hu => hu.homedReport a stale
  case contactAsserted level z =>
    exact h.onLine (f := fun u => if level then u.contactRises z else u) e
      (ifLevel (fun u => u.contactRises_sameLanes z) level)
  case gripSettleExpiry g => exact h.take (f := fun u => u.gripSettles g) e fun u hu => hu.gripSettles g
  case releaseSettleExpiry => exact h.take (f := State.releaseSettles) e fun u hu => hu.releaseSettles
  case dropFault level =>
    exact h.onLine (f := fun u => if level then u.holdLost else u) e (ifLevel State.holdLost_sameLanes level)
  case driveFaultAsserted a level =>
    exact h.onLine (f := fun u => if level then u.inputFault (driveFaultKind a) else u) e
      (ifLevel (fun u => u.inputFault_sameLanes _) level)
  case limitAsserted level =>
    exact h.onLine (f := fun u => if level then u.inputFault .limit else u) e
      (ifLevel (fun u => u.inputFault_sameLanes _) level)
  case takenPulse l => exact h.take (f := fun u => u.taken l) e fun u hu => hu.taken l
  case sawReadyRise => exact h.onLine (f := State.sawRises) e fun u hu => hu.sawRises
  case laneTimerExpiry l => exact h.take (f := fun u => u.laneTimerExpires l) e fun u hu => hu.laneTimerExpires l
  case bookWaitExpiry l => exact h.take (f := fun u => u.bookWaitExpires l) e fun u hu => hu.bookWaitExpires l
  case resume b z =>
    exact h.take (f := fun u => u.requestArrives (frameOfRequest .resume b) z) e fun u hu => hu.requestArrives _ z
  all_goals
    exact h.take (f := fun u => u.requestArrives { kind := _, body := _ } u.inputs.zReport) e
      fun u hu => hu.requestArrives _ _

end State.ListsExact

/-- Settles O57: the commands keep the lists exact one by one, each by what it makes of the lanes it changes, and a millisecond
changes timers and ages only. -/
theorem stepKeepsTheListsExact : Obligations.StepKeepsTheListsExact := by
  unfold Obligations.StepKeepsTheListsExact
  intro s t h e
  unfold step at e
  split at e
  · cases e
    exact h.tick
  · next c rest _ =>
    have queued : (s.withPending rest).ListsExact := h.of_same ⟨rfl, rfl, rfl⟩
    exact queued.exec c e

end Sys2Proof.Machine
end

section
/-! A millisecond of the part, and the part under the reset pin (R76, R87, R101, R117, R183). -/

namespace Sys2Proof.Machine

/-! ## A millisecond (log 4) -/

theorem step_idle {s : State} (h : s.pending = []) : step s = .next s.tick := by
  rw [step, h]

theorem tick_held {s : State} (h : s.resetHeld = true) : s.tick = s :=
  if_pos h

theorem tick_running {s : State} (h : s.resetHeld = false) :
    s.tick = { s with
      gripCounter := s.gripCounter.tick
      releaseCounter := s.releaseCounter.tick
      lanes := s.lanes.map Lane.tick
      idleQueue := s.idleQueue.map IdleEntry.tick
      gantry := { s.gantry with driveOut := [], move := s.gantry.move.tick } } :=
  if_neg (by simp [h])

theorem Counter.tick_not_running {c : Counter} (h : ∀ n, c ≠ .running n) : c.tick = c := by
  cases c with
  | running n => exact absurd rfl (h n)
  | stopped => rfl
  | paused n => rfl

theorem Move.tick_not_modelled {m : Move} (h : ∀ n ts, m ≠ .modelled n ts) : m.tick = m := by
  cases m with
  | modelled n ts => exact absurd rfl (h n ts)
  | still => rfl
  | awaiting axes => rfl

/-- Settles O2: outside reset the next state is that of `tick_running`, read field by field. -/
theorem idleStepIsAMillisecond : Obligations.IdleStepIsAMillisecond := by
  unfold Obligations.IdleStepIsAMillisecond
  intro s hp
  rw [step_idle hp]
  refine ⟨fun held => by rw [tick_held held], fun running => ⟨_, rfl, ?_⟩⟩
  rw [tick_running running]
  refine ⟨rfl, fun n hn => ?_, Counter.tick_not_running, fun n hn => ?_, Counter.tick_not_running,
    fun l => PerLane.get_map .., rfl, fun n ts hm => ?_, Move.tick_not_modelled⟩
  · exact congrArg Counter.tick hn
  · exact congrArg Counter.tick hn
  · exact congrArg Move.tick hm

/-! ## Under the reset pin (R183, log 7) -/

theorem onLine_held {s : State} (h : s.resetHeld = true) (i : Inputs) (f : State → State) :
    s.onLine i f = .next { s.quiet with inputs := i } := by
  simp [State.onLine, h]

theorem onLine_running {s : State} (h : s.resetHeld = false) (i : Inputs) (f : State → State) :
    s.onLine i f = .next (f { s.quiet with inputs := i }) := by
  simp [State.onLine, h]

/-- Under the reset pin a command changes the levels of the wires at most. -/
theorem exec_held {s : State} (h : s.resetHeld = true) {c : Instr} (hp : ∀ a b, c ≠ .powerOnReset a b)
    (hr : c ≠ .resetPinAsserted) : ∃ i, exec c s = .next { s.quiet with inputs := i } := by
  cases c
  case powerOnReset a b => exact absurd rfl (hp a b)
  case resetPinAsserted => exact absurd rfl hr
  case hostReadyAsserted level => exact ⟨_, rfl⟩
  case safetyLineAsserted | safetyLineReleased | inPositionReport | contactAsserted | dropFault | driveFaultAsserted |
      limitAsserted | sawReadyRise | sawReadyFall => exact ⟨_, congrArg Host.Outcome.next (if_pos h)⟩
  all_goals exact ⟨s.inputs, congrArg Host.Outcome.next (if_pos h)⟩

theorem bookReady_iff (s : State) (l : LaneNo) : s.bookReady l = true ↔
    s.gantry.dryRun = false ∧ s.resetHeld = false ∧ ∃ bk, (s.lane l).state = .handed bk := by
  unfold State.bookReady
  cases (s.lane l).state <;> simp

theorem blowOffOutput_iff (s : State) :
    s.blowOffOutput = true ↔ s.gantry.dryRun = false ∧ s.resetHeld = false ∧ s.blowOff = true := by
  simp [State.blowOffOutput, and_assoc]

theorem valveOutputs_eq (s : State) :
    s.valveOutputs = if s.gantry.dryRun = true ∨ s.resetHeld = true then 0 else s.valves := by
  simp [State.valveOutputs]

/-- Settles O5: each output is inactive while the pin is held, and each command is taken under the pin as `exec_held` says. -/
theorem resetPinSilencesThePart : Obligations.ResetPinSilencesThePart := by
  unfold Obligations.ResetPinSilencesThePart
  refine ⟨fun s => ⟨s.underReset, rfl, rfl, ?_, ?_, fun l => ?_, rfl, rfl, rfl, rfl, rfl⟩, fun c s h hp hr => exec_held h hp hr,
    fun s h => ⟨onLine_held h _ _, onLine_held h _ _⟩,
    fun s => ⟨valveOutputs_eq s, blowOffOutput_iff s, bookReady_iff s⟩⟩
  · rw [valveOutputs_eq, if_pos (.inr rfl)]
  · rw [← Bool.not_eq_true, blowOffOutput_iff]
    exact fun ⟨_, held, _⟩ => nomatch held
  · rw [← Bool.not_eq_true, bookReady_iff]
    exact fun ⟨_, held, _⟩ => nomatch held

end Sys2Proof.Machine
end

section
/-! The requests on the lanes: SET LANE, CLOSE BOOK, PARK LANE and UNPARK LANE (R73, R74, R84, R86, R87, R92, R93, R94). -/

namespace Sys2Proof.Machine

/-! ## Requests without a reply payload -/

section Answered

variable {s u : State} (h : s.ready) (k : RequestKind) (b : Body) (hb : b.payload.length = k.payloadLength)

include h hb

theorem exec_accepted (ha : answerOf k (frameOfRequest k b) 0 s.quiet = accept u) :
    exec (requestCommand k b 0) s = .next (u.withReply k.code b .ok []) :=
  exec_answered h k b hb ha rfl fun _ => rfl

theorem exec_acceptedWake (ha : answerOf k (frameOfRequest k b) 0 s.quiet = acceptWake u) :
    exec (requestCommand k b 0) s = .next (u.withReply k.code b .ok []).reevaluate :=
  exec_answered h k b hb ha rfl fun _ => rfl

theorem exec_deferred (ha : answerOf k (frameOfRequest k b) 0 s.quiet = defer u) :
    exec (requestCommand k b 0) s = .next (u.withReply k.code b .deferred []) :=
  exec_answered h k b hb ha rfl fun _ => rfl

end Answered

/-! ## The lane a request names -/

theorem answerParkLane_of {f : Frame} {l : LaneNo} (hl : u8 f.body.payload 0 = laneCode l) (s : State) :
    answerParkLane f s = s.parkLane l := by
  rw [answerParkLane, laneOf_eq_some.2 hl]

theorem answerUnparkLane_of {f : Frame} {l : LaneNo} (hl : u8 f.body.payload 0 = laneCode l) (s : State) :
    answerUnparkLane f s = s.unparkLane l := by
  rw [answerUnparkLane, laneOf_eq_some.2 hl]

theorem answerCloseBook_of {f : Frame} {l : LaneNo} (hl : u8 f.body.payload 0 = laneCode l) (s : State) :
    answerCloseBook f s = s.requestClose l := by
  rw [answerCloseBook, laneOf_eq_some.2 hl]

/-! ## SET LANE -/

/-- The configuration stored by SET LANE (R73, R74). -/
theorem laneConfigOf_eq {p : List Byte} {sx sy : Sign} {m : TimerMode} (hx : u8 p 5 = sx.code) (hy : u8 p 6 = sy.code)
    (hm : u8 p 16 = m.code) :
    laneConfigOf p = some
      { xf := u16 p 1, yf := u16 p 3, sx := sx, sy := sy, lt := u16 p 7, wt := u16 p 9, zt := u16 p 11,
        hmax := max 10 (min 1200 (u16 p 13)), countLimit := max 1 (min 12 (u8 p 15)), timerMode := m,
        timerTime := max 1 (min 600 (u16 p 17)), bookWait := min 120 (u8 p 19) } := by
  simp only [laneConfigOf, signOf_eq_some.2 hx, signOf_eq_some.2 hy, timerModeOf_eq_some.2 hm]
  rw [clampTo_eq (by decide), clampTo_eq (by decide), clampTo_eq (by decide), clampTo_eq (by decide), Nat.zero_max]

theorem laneConfigOf_none {p : List Byte}
    (h : (∀ g : Sign, u8 p 5 ≠ g.code) ∨ (∀ g : Sign, u8 p 6 ≠ g.code) ∨ ∀ m : TimerMode, u8 p 16 ≠ m.code) :
    laneConfigOf p = none := by
  unfold laneConfigOf
  split
  · next hx hy hm =>
    rcases h with h | h | h
    · exact absurd (signOf_eq_some.1 hx) (h _)
    · exact absurd (signOf_eq_some.1 hy) (h _)
    · exact absurd (timerModeOf_eq_some.1 hm) (h _)
  · rfl

theorem laneGeometryOk_iff (s : State) (c : LaneConfig) : s.laneGeometryOk c = true ↔
    (s.travel.xMin ≤ c.xf ∧ c.xf ≤ s.travel.xMax) ∧ (s.travel.yMin ≤ c.yf ∧ c.yf ≤ s.travel.yMax) ∧
      (s.travel.zMin ≤ c.zt ∧ c.zt ≤ s.travel.zMax) ∧ (1 ≤ c.lt ∧ c.lt ≤ 65000) ∧ 1 ≤ c.wt ∧ c.wt ≤ 30000 := by
  simp only [State.laneGeometryOk, Bool.and_eq_true, within_iff, and_assoc]

theorem laneConfigClamped_iff (p : List Byte) (c : LaneConfig) : laneConfigClamped p c = true ↔
    ¬ (c.hmax = u16 p 13 ∧ c.countLimit = u8 p 15 ∧ c.timerTime = u16 p 17 ∧ c.bookWait = u8 p 19) := by
  simp [laneConfigClamped, imp_iff_not_or, or_assoc]

/-- What SET LANE makes of a configuration for a PARKED lane, check by check (R74). -/
theorem answerSetLane_of {f : Frame} {s : State} {l : LaneNo} {c : LaneConfig} (hl : u8 f.body.payload 0 = laneCode l)
    (hs : (s.lane l).state = .parked) (hc : laneConfigOf f.body.payload = some c) :
    answerSetLane f s =
      if s.laneGeometryOk c = false then refuse .outOfRange s
      else if s.travel.ztravel < c.zt + c.hmax + 1000 then refuse .travelConflict s
      else
        { result := if laneConfigClamped f.body.payload c then .okAdjusted else .ok, payload := c.fields,
          state := s.setLane l { s.lane l with configured := true, cfg := c }, wake := false, later := false } := by
  simp only [answerSetLane, laneOf_eq_some.2 hl, hs, hc, ne_eq, not_true_eq_false, if_false, Bool.not_eq_true']

/-- Settles O31: the checks of R74 as `answerSetLane_of` gives them, the stored values as `laneConfigOf_eq` reads them. -/
theorem setLaneStoresTheConfiguration : Obligations.SetLaneStoresTheConfiguration := by
  unfold Obligations.SetLaneStoresTheConfiguration
  intro b s h hb
  refine ⟨fun hl => exec_refused h .setLane b hb ?_, fun l hl hs => exec_refused h .setLane b hb ?_,
    fun l hl hs hv => exec_refused h .setLane b hb ?_, fun l sx sy m c hl hs hx hy hm hc => ?_⟩
  · simp only [answerOf, answerSetLane, frameOfRequest, laneOf_eq_none.2 hl]
  · have closed : (s.quiet.lane l).state ≠ .parked := hs
    simp only [answerOf, answerSetLane, frameOfRequest, laneOf_eq_some.2 hl, if_pos closed]
  · have parked : (s.quiet.lane l).state = .parked := hs
    simp only [answerOf, answerSetLane, frameOfRequest, laneOf_eq_some.2 hl, laneConfigOf_none hv, parked, ne_eq,
      not_true_eq_false, if_false]
  · have config : laneConfigOf b.payload = some c := hc ▸ laneConfigOf_eq hx hy hm
    have answer := answerSetLane_of (f := frameOfRequest .setLane b) (s := s.quiet) hl hs config
    split
    · next outside =>
      refine exec_refused h .setLane b hb (answer.trans (if_pos ?_))
      rw [← Bool.not_eq_true, laneGeometryOk_iff]
      exact outside
    · next inside =>
      have inside : ¬ s.quiet.laneGeometryOk c = false := by
        rw [Bool.not_eq_false, laneGeometryOk_iff]
        exact not_not.1 inside
      rw [if_neg inside] at answer
      split
      · exact exec_refused h .setLane b hb (answer.trans (if_pos (by simp; omega)))
      · rw [if_neg (by simp; omega)] at answer
        have carried : (if laneConfigClamped b.payload c then Result.okAdjusted else .ok).carries = true := by
          split <;> rfl
        have done := exec_answered h .setLane b hb answer rfl fun hn => absurd (carried.symm.trans hn) nofun
        have sent : (if laneConfigClamped b.payload c then Result.okAdjusted else .ok) =
            if c.hmax = u16 b.payload 13 ∧ c.countLimit = u8 b.payload 15 ∧ c.timerTime = u16 b.payload 17 ∧
              c.bookWait = u8 b.payload 19 then .ok else .okAdjusted := by
          simp only [laneConfigClamped_iff, ite_not]
        rw [← sent]
        subst hc
        exact done

/-! ## CLOSE BOOK -/

/-- The closing of a book, spelled (R84, R87, R94). -/
theorem closeBook_filling {s : State} {l : LaneNo} {bk : Book} (h : (s.lane l).state = .filling bk) :
    s.closeBook l = { s with
      lanes := s.lanes.set l { s.lane l with
        state := .handed bk, closePending := false, bookTimer := none, noteHanded := true, report := some bk,
        laneTimer := match (s.lane l).cfg.timerMode with
          | .off => if s.gantry.dryRun then some 1000 else none
          | .monitor => some ((s.lane l).cfg.timerTime * 1000)
          | .pace => some ((s.lane l).cfg.timerTime * 1000) },
      fillingOrder := s.fillingOrder.filter fun m => m != l } := by
  simp only [State.closeBook, h]
  rfl

theorem requestClose_refused {s : State} {l : LaneNo}
    (h : (s.lane l).state = .parked ∨ (s.lane l).state = .idle ∨ ∃ bk, (s.lane l).state = .handed bk) :
    s.requestClose l = refuse .laneState s := by
  rcases h with h | h | ⟨bk, h⟩ <;> simp only [State.requestClose, h]

theorem requestClose_filling {s : State} {l : LaneNo} {bk : Book} (h : (s.lane l).state = .filling bk) :
    s.requestClose l =
      if (s.lane l).inbound then defer (s.setLane l { s.lane l with closePending := true })
      else accept (s.closeBook l) := by
  simp only [State.requestClose, h]

/-- Settles O32: the rows of R86 by the lane's state, the closing by `closeBook_filling`. -/
theorem closeBookActsByItsTable : Obligations.CloseBookActsByItsTable := by
  unfold Obligations.CloseBookActsByItsTable
  intro b s h hb
  refine ⟨fun hl => exec_refused h .closeBook b hb ?_, fun l hl hs => exec_refused h .closeBook b hb ?_,
    fun l bk hl hs hi => exec_deferred h .closeBook b hb ?_, fun l bk hl hs hi => ?_⟩
  · simp only [answerOf, answerCloseBook, frameOfRequest, laneOf_eq_none.2 hl]
  · exact (answerCloseBook_of hl _).trans (requestClose_refused (s := s.quiet) hs)
  · exact (answerCloseBook_of hl _).trans ((requestClose_filling (s := s.quiet) hs).trans (if_pos hi))
  · have closed : answerOf .closeBook (frameOfRequest .closeBook b) 0 s.quiet = accept (s.quiet.closeBook l) :=
      (answerCloseBook_of hl _).trans ((requestClose_filling (s := s.quiet) hs).trans
        (if_neg (by rw [Bool.not_eq_true]; exact hi)))
    rw [closeBook_filling (s := s.quiet) hs] at closed
    exact exec_accepted h .closeBook b hb closed

/-! ## PARK LANE -/

section Park

variable {s : State} {l : LaneNo}

theorem parkLane_parked (h : (s.lane l).state = .parked) : s.parkLane l = accept s := by
  simp only [State.parkLane, h]

theorem parkLane_requested (h : (s.lane l).state ≠ .parked) (hp : (s.lane l).parkRequest = true) :
    s.parkLane l = defer s := by
  cases hs : (s.lane l).state with
  | parked => exact absurd hs h
  | idle => simp only [State.parkLane, hs, hp, if_true]
  | filling bk => simp only [State.parkLane, hs, hp, if_true]
  | handed bk => simp only [State.parkLane, hs, hp, if_true]

variable (hp : (s.lane l).parkRequest = false)

include hp

theorem parkLane_idle (h : (s.lane l).state = .idle) : s.parkLane l =
    if (s.lane l).inbound then defer ((s.setLane l { s.lane l with parkRequest := true }).leaveIdle l)
    else accept ((s.setLane l { s.lane l with state := .parked, noteParked := true }).leaveIdle l) := by
  simp [State.parkLane, h, hp]

theorem parkLane_filling {bk : Book} (h : (s.lane l).state = .filling bk) : s.parkLane l =
    if (s.lane l).inbound then defer (s.setLane l { s.lane l with parkRequest := true })
    else defer ((s.setLane l { s.lane l with parkRequest := true }).closeBook l) := by
  simp [State.parkLane, h, hp]

theorem parkLane_handed {bk : Book} (h : (s.lane l).state = .handed bk) :
    s.parkLane l = defer (s.setLane l { s.lane l with parkRequest := true }) := by
  simp [State.parkLane, h, hp]

end Park

/-- Settles O33: the rows of R92 by the lane's state, its park-request and inbound. -/
theorem parkLaneActsByItsTable : Obligations.ParkLaneActsByItsTable := by
  unfold Obligations.ParkLaneActsByItsTable
  intro b s h hb
  refine ⟨fun hl => exec_refused h .parkLane b hb ?_, fun l hl => ?_⟩
  · simp only [answerOf, answerParkLane, frameOfRequest, laneOf_eq_none.2 hl]
  have answer {a : Answer} (ha : s.quiet.parkLane l = a) : answerOf .parkLane (frameOfRequest .parkLane b) 0 s.quiet = a :=
    (answerParkLane_of hl _).trans ha
  refine ⟨fun hs => exec_accepted h .parkLane b hb (answer (parkLane_parked hs)),
    fun hs hp => exec_deferred h .parkLane b hb (answer (parkLane_requested hs hp)),
    fun hp => ⟨fun hs hi => exec_accepted h .parkLane b hb (answer ?_),
      fun hs hi => exec_deferred h .parkLane b hb (answer ?_),
      fun bk hs hi => exec_deferred h .parkLane b hb (answer ?_), ?_⟩⟩
  · exact (parkLane_idle (s := s.quiet) hp hs).trans (if_neg (by rw [Bool.not_eq_true]; exact hi))
  · exact (parkLane_idle (s := s.quiet) hp hs).trans (if_pos hi)
  · exact (parkLane_filling (s := s.quiet) hp hs).trans (if_neg (by rw [Bool.not_eq_true]; exact hi))
  · rintro (⟨bk, hs, hi⟩ | ⟨bk, hs⟩)
    · exact exec_deferred h .parkLane b hb (answer ((parkLane_filling (s := s.quiet) hp hs).trans (if_pos hi)))
    · exact exec_deferred h .parkLane b hb (answer (parkLane_handed (s := s.quiet) hp hs))

/-! ## UNPARK LANE -/

section Unpark

variable {s : State} {l : LaneNo}

theorem unparkLane_unconfigured (h : (s.lane l).configured = false) :
    s.unparkLane l = refuse .laneUnconfigured s := by
  simp [State.unparkLane, h]

variable (hc : (s.lane l).configured = true)

include hc

theorem unparkLane_parked (h : (s.lane l).state = .parked) :
    s.unparkLane l = acceptWake ((s.setLane l { s.lane l with state := .idle }).joinIdle l) := by
  simp [State.unparkLane, h, hc]

theorem unparkLane_idle (h : (s.lane l).state = .idle) : s.unparkLane l =
    if (s.lane l).parkRequest then acceptWake ((s.setLane l { s.lane l with parkRequest := false }).joinIdle l)
    else accept s := by
  simp [State.unparkLane, h, hc]

theorem unparkLane_book {bk : Book} (h : (s.lane l).state = .filling bk ∨ (s.lane l).state = .handed bk) :
    s.unparkLane l = accept (s.setLane l { s.lane l with parkRequest := false }) := by
  rcases h with h | h <;> simp [State.unparkLane, h, hc]

end Unpark

/-- Settles O34: the rows of R93 by the lane's configuration, state and park-request. -/
theorem unparkLaneActsByItsTable : Obligations.UnparkLaneActsByItsTable := by
  unfold Obligations.UnparkLaneActsByItsTable
  intro b s h hb
  refine ⟨fun hl => exec_refused h .unparkLane b hb ?_, fun l hl => ?_⟩
  · simp only [answerOf, answerUnparkLane, frameOfRequest, laneOf_eq_none.2 hl]
  have answer {a : Answer} (ha : s.quiet.unparkLane l = a) :
      answerOf .unparkLane (frameOfRequest .unparkLane b) 0 s.quiet = a :=
    (answerUnparkLane_of hl _).trans ha
  refine ⟨fun hc => exec_refused h .unparkLane b hb (answer (unparkLane_unconfigured hc)), fun hc =>
    ⟨fun hs => exec_acceptedWake h .unparkLane b hb (answer (unparkLane_parked (s := s.quiet) hc hs)),
      fun hs hp => exec_acceptedWake h .unparkLane b hb (answer ?_), fun ⟨bk, hs⟩ => ?_,
      fun hs hp => exec_accepted h .unparkLane b hb (answer ?_)⟩⟩
  · exact (unparkLane_idle (s := s.quiet) hc hs).trans (if_pos hp)
  · exact exec_accepted h .unparkLane b hb (answer (unparkLane_book (s := s.quiet) hc hs))
  · exact (unparkLane_idle (s := s.quiet) hc hs).trans (if_neg (by rw [Bool.not_eq_true]; exact hp))

end Sys2Proof.Machine
end

section
/-! The close test, the take-over and the events of the saws (R76, R82, R83, R85, R87 to R91, R100, R102). -/

namespace Sys2Proof.Machine

/-! ## Growth (R83) -/

theorem grows_iff (j : Job) (l : LaneNo) (k : Key) : j.grows l k = true ↔
    j.live = true ∧ j.cancelPending = false ∧ 1 ≤ j.count - (j.placed + (if j.inFlight then 1 else 0)) ∧
      j.type = k.type ∧ j.pattern = k.pattern ∧ j.rotation = k.rotation ∧ (j.lane = none ∨ j.lane = some l) := by
  have key : j.key = k ↔ j.type = k.type ∧ j.pattern = k.pattern ∧ j.rotation = k.rotation := by
    rw [Key.mk.injEq, Job.key]
  have parts : j.grows l k = true ↔
      j.live = true ∧ j.cancelPending = false ∧ 1 ≤ j.remaining ∧ j.key = k ∧ (j.lane = none ∨ j.lane = some l) := by
    simp [Job.grows, and_assoc]
  rw [parts, key]
  simp only [Job.remaining, Job.supplied, and_assoc]

theorem room_iff (cfg : LaneConfig) (bk : Book) (thk : Nat) :
    cfg.room bk thk = true ↔ bk.tags.length < cfg.countLimit ∧ bk.height + thk ≤ cfg.hmax := by
  simp [LaneConfig.room]

/-- The jobs of the dispatch window are the first entries of the list (R37). -/
theorem window_jobs (s : State) : s.window.map Located.job = s.store.jobs.entries.take s.modes.window := by
  rw [State.window, List.map_take, State.located, locateFrom_jobs]

theorem canGrow_iff (s : State) (l : LaneNo) (bk : Book) : s.canGrow l bk = true ↔
    bk.tags.length < (s.lane l).cfg.countLimit ∧
      bk.height + (s.typeEntry bk.key.type).thk ≤ (s.lane l).cfg.hmax ∧
      ∃ j ∈ s.store.jobs.entries.take s.modes.window, j.live = true ∧ j.cancelPending = false ∧
        1 ≤ j.count - (j.placed + (if j.inFlight then 1 else 0)) ∧ j.type = bk.key.type ∧
        j.pattern = bk.key.pattern ∧ j.rotation = bk.key.rotation ∧ (j.lane = none ∨ j.lane = some l) := by
  have jobs : (s.window.any fun e => e.job.grows l bk.key) =
      (s.store.jobs.entries.take s.modes.window).any fun j => j.grows l bk.key := by
    rw [← window_jobs, List.any_map]
    rfl
  simp only [State.canGrow, jobs, Bool.and_eq_true, room_iff, and_assoc, List.any_eq_true, grows_iff]

/-! ## The close test (R82) -/

section CloseTest

variable {s : State} {l : LaneNo}

theorem closeTestPark_unrequested (h : (s.lane l).state = .idle → (s.lane l).parkRequest = false) :
    s.closeTestPark l = s :=
  if_neg fun ⟨idle, park⟩ => by simp [h idle] at park

theorem closeTestBook_empty (h : ∀ bk, (s.lane l).state ≠ .filling bk) : s.closeTestBook l = s := by
  unfold State.closeTestBook
  split
  · next bk hs => exact absurd hs (h bk)
  all_goals rfl

theorem closeTestTimer_empty (h : ∀ bk, (s.lane l).state ≠ .filling bk) : s.closeTestTimer l = s := by
  unfold State.closeTestTimer
  split
  · next bk hs => exact absurd hs (h bk)
  all_goals rfl

/-- Without a book to fill, steps 3 and 4 do nothing. -/
theorem closeTest_noBook {u : State} (hu : s.closeTestPark l = u) (h : ∀ bk, (u.lane l).state ≠ .filling bk) :
    s.closeTest l = u.closeTestEnd l := by
  rw [State.closeTest, hu, closeTestBook_empty h, closeTestTimer_empty h]

theorem closeTest_idle (h : (s.lane l).state = .idle) : s.closeTest l =
    { s with lanes := s.lanes.set l (if (s.lane l).parkRequest then
        { s.lane l with state := .parked, parkRequest := false, noteParked := true, inbound := false, closePending := false }
      else { s.lane l with inbound := false, closePending := false }) } := by
  split
  · next hp =>
    have parks : s.closeTestPark l = s.setLane l (s.lane l).parkNow := if_pos ⟨h, hp⟩
    have closed : ∀ bk, ((s.setLane l (s.lane l).parkNow).lane l).state ≠ .filling bk := by
      simp [Lane.parkNow]
    rw [closeTest_noBook parks closed, State.closeTestEnd, State.lane_setLane_self]
    simp only [State.setLane, PerLane.set_set]
    rfl
  · next hp =>
    exact closeTest_noBook (closeTestPark_unrequested fun _ => by simpa using hp) (by simp [h])

/-- On a FILLING lane the test begins with the book. -/
theorem closeTest_filling {bk : Book} {u : State} (h : (s.lane l).state = .filling bk) (hu : s.closeTestBook l = u) :
    s.closeTest l = (u.closeTestTimer l).closeTestEnd l := by
  rw [State.closeTest, closeTestPark_unrequested (by simp [h]), hu]

theorem closeTestBook_filling {bk : Book} (h : (s.lane l).state = .filling bk) : s.closeTestBook l =
    if (s.lane l).closePending = true ∨ (s.lane l).parkRequest = true ∨ ¬ s.canGrow l bk = true then s.closeBook l
    else s := by
  simp only [State.closeTestBook, h, Bool.or_eq_true, Bool.not_eq_true', Bool.not_eq_true, or_assoc]

theorem closeTestTimer_filling {bk : Book} (h : (s.lane l).state = .filling bk) : s.closeTestTimer l =
    if 0 < (s.lane l).cfg.bookWait then
      s.setLane l { s.lane l with bookTimer := some (msOf (s.lane l).cfg.bookWait) }
    else s := by
  rw [State.closeTestTimer, h]

theorem closeBook_lane {bk : Book} (h : (s.lane l).state = .filling bk) :
    (s.closeBook l).lane l = (s.lane l).handOver bk s.gantry.dryRun := by
  simp only [State.closeBook, h]
  exact PerLane.get_set_self ..

/-- A book that closes: step 4 finds no FILLING lane, and close-pending is clear already. -/
theorem closeTest_closes {bk : Book} (h : (s.lane l).state = .filling bk)
    (hc : (s.lane l).closePending = true ∨ (s.lane l).parkRequest = true ∨ ¬ s.canGrow l bk = true) :
    s.closeTest l = (s.closeBook l).setLane l { (s.closeBook l).lane l with inbound := false } := by
  have closes : s.closeTestBook l = s.closeBook l := (closeTestBook_filling h).trans (if_pos hc)
  have handed : ∀ b, ((s.closeBook l).lane l).state ≠ .filling b := by
    simp [closeBook_lane h, Lane.handOver]
  rw [closeTest_filling h closes, closeTestTimer_empty handed, State.closeTestEnd, closeBook_lane h]
  rfl

/-- A book that stays open: the book-wait timer starts afresh. -/
theorem closeTest_stays {bk : Book} (h : (s.lane l).state = .filling bk) (hc : (s.lane l).closePending = false)
    (hp : (s.lane l).parkRequest = false) (hg : s.canGrow l bk = true) :
    s.closeTest l = { s with lanes := s.lanes.set l { s.lane l with
      inbound := false, closePending := false,
      bookTimer := if 0 < (s.lane l).cfg.bookWait then some ((s.lane l).cfg.bookWait * 1000)
        else (s.lane l).bookTimer } } := by
  have stays : s.closeTestBook l = s := (closeTestBook_filling h).trans (if_neg (by simp [hc, hp, hg]))
  rw [closeTest_filling h stays, closeTestTimer_filling h]
  split
  · rw [State.closeTestEnd, State.lane_setLane_self]
    simp only [State.setLane, PerLane.set_set]
    rfl
  · rfl

end CloseTest

/-- Settles O35: the lane's state and `canGrow_iff` choose between the three ends of the test. -/
theorem closeTestDecidesTheBook : Obligations.CloseTestDecidesTheBook := by
  unfold Obligations.CloseTestDecidesTheBook
  intro s l
  refine ⟨closeTest_idle, fun bk hs => ⟨fun hc => ?_, fun hc hp hn hh hj => ?_⟩⟩
  · rw [← canGrow_iff] at hc
    exact closeTest_closes hs hc
  · exact closeTest_stays hs hc hp ((canGrow_iff s l bk).2 ⟨hn, hh, hj⟩)

/-! ## Take-over, stall and closing by time -/

section Lanes

variable {s : State} {l : LaneNo}

theorem takeOverEvent_park (h : (s.lane l).parkRequest = true) : s.takeOverEvent l =
    s.setLane l ({ s.lane l with laneTimer := none, stalled := false } : Lane).parkNow := by
  simp [State.takeOverEvent, State.takeOver, h]

theorem takeOverEvent_idle (h : (s.lane l).parkRequest = false) : s.takeOverEvent l =
    ((s.setLane l { s.lane l with laneTimer := none, stalled := false, state := .idle }).joinIdle l).reevaluate := by
  simp [State.takeOverEvent, State.takeOver, h]

theorem samplesTaken_iff (s : State) (l : LaneNo) :
    s.samplesTaken l = true ↔ s.gantry.dryRun = false ∧ (s.lane l).cfg.timerMode ≠ .pace := by
  simp [State.samplesTaken]

theorem taken_unsampled (h : s.gantry.dryRun = true ∨ (s.lane l).cfg.timerMode = .pace) : s.taken l = s := by
  refine if_neg ?_
  rw [samplesTaken_iff]
  rintro ⟨live, paced⟩
  rcases h with h | h
  · exact absurd (live.symm.trans h) nofun
  · exact paced h

theorem taken_handed (hd : s.gantry.dryRun = false) (hm : (s.lane l).cfg.timerMode ≠ .pace) {bk : Book}
    (h : (s.lane l).state = .handed bk) : s.taken l = s.takeOverEvent l := by
  simp only [State.taken, (samplesTaken_iff s l).2 ⟨hd, hm⟩, h, if_true]

theorem taken_spurious (hd : s.gantry.dryRun = false) (hm : (s.lane l).cfg.timerMode ≠ .pace)
    (h : (s.lane l).state.book = none ∨ ∃ bk, (s.lane l).state = .filling bk) :
    s.taken l = s.setLane l (s.lane l).spurious := by
  have sampled := (samplesTaken_iff s l).2 ⟨hd, hm⟩
  cases hs : (s.lane l).state with
  | handed bk => simp [hs, LaneState.book] at h
  | parked => simp only [State.taken, sampled, hs, if_true]
  | idle => simp only [State.taken, sampled, hs, if_true]
  | filling bk => simp only [State.taken, sampled, hs, if_true]

theorem laneTimerExpires_stopped (h : (s.lane l).laneTimer = none) : s.laneTimerExpires l = s := by
  unfold State.laneTimerExpires
  rw [h]
  split
  · next running => exact absurd running nofun
  · rfl

theorem laneTimerExpires_handed {bk : Book} (h : (s.lane l).state = .handed bk)
    (ht : (s.lane l).laneTimer.isSome = true) : s.laneTimerExpires l =
      if (s.lane l).cfg.timerMode = .monitor ∧ s.gantry.dryRun = false then s.setLane l (s.lane l).stall
      else s.takeOverEvent l := by
  obtain ⟨n, hn⟩ := Option.isSome_iff_exists.1 ht
  simp only [State.laneTimerExpires, h, hn]

theorem bookWaitExpires_running (ht : (s.lane l).bookTimer.isSome = true) (hi : (s.lane l).inbound = false) :
    s.bookWaitExpires l = s.closeBook l :=
  if_pos (by simp [ht, hi])

theorem bookWaitExpires_stopped (h : (s.lane l).bookTimer = none ∨ (s.lane l).inbound = true) :
    s.bookWaitExpires l = s := by
  refine if_neg ?_
  rcases h with h | h <;> simp [h]

theorem exec_takenPulse (h : s.resetHeld = false) (l : LaneNo) : exec (.takenPulse l) s = .next (s.quiet.taken l) :=
  take_running h fun s => s.taken l

theorem exec_laneTimerExpiry (h : s.resetHeld = false) (l : LaneNo) :
    exec (.laneTimerExpiry l) s = .next (s.quiet.laneTimerExpires l) :=
  take_running h fun s => s.laneTimerExpires l

theorem exec_bookWaitExpiry (h : s.resetHeld = false) (l : LaneNo) :
    exec (.bookWaitExpiry l) s = .next (s.quiet.bookWaitExpires l) :=
  take_running h fun s => s.bookWaitExpires l

/-- The two commands that bring a take-over about (R88, R89, R90). -/
theorem exec_takesOver (hr : s.resetHeld = false) {bk : Book} (hs : (s.lane l).state = .handed bk) {c : Instr}
    (hc : (c = .takenPulse l ∧ s.gantry.dryRun = false ∧ (s.lane l).cfg.timerMode ≠ .pace) ∨
      (c = .laneTimerExpiry l ∧ (s.lane l).laneTimer.isSome = true ∧
        (s.gantry.dryRun = true ∨ (s.lane l).cfg.timerMode ≠ .monitor))) :
    exec c s = .next (s.quiet.takeOverEvent l) := by
  rcases hc with ⟨rfl, hd, hm⟩ | ⟨rfl, ht, hm⟩
  · rw [exec_takenPulse hr, taken_handed (s := s.quiet) hd hm hs]
  · rw [exec_laneTimerExpiry hr, laneTimerExpires_handed (s := s.quiet) hs ht, if_neg]
    rintro ⟨monitor, live⟩
    rcases hm with hm | hm
    · exact absurd (hm.symm.trans live) nofun
    · exact hm monitor

end Lanes

/-- Settles O36: the take-over by the park-request, the other commands by their timer and mode. -/
theorem lanesAreTakenOverStalledAndClosed : Obligations.LanesAreTakenOverStalledAndClosed := by
  unfold Obligations.LanesAreTakenOverStalledAndClosed
  intro s l off hr hoff
  subst hoff
  refine ⟨fun hu => ?_, fun hd hm hs => ?_, fun bk c hs hc => ⟨fun hp => ?_, fun hp => ?_⟩, fun bk hs ht hd hm => ?_,
    fun ht => ?_, fun ht hi => ?_, fun ht => ?_⟩
  · rw [exec_takenPulse hr, taken_unsampled (s := s.quiet) hu]
  · rw [exec_takenPulse hr, taken_spurious (s := s.quiet) hd hm hs]
    rfl
  · rw [exec_takesOver hr hs hc, takeOverEvent_park (s := s.quiet) hp]
    rfl
  · rw [exec_takesOver hr hs hc, takeOverEvent_idle (s := s.quiet) hp]
    rfl
  · rw [exec_laneTimerExpiry hr, laneTimerExpires_handed (s := s.quiet) hs ht, if_pos ⟨hm, hd⟩]
    rfl
  · rw [exec_laneTimerExpiry hr, laneTimerExpires_stopped (s := s.quiet) ht]
  · rw [exec_bookWaitExpiry hr, bookWaitExpires_running (s := s.quiet) ht hi]
  · rw [exec_bookWaitExpiry hr, bookWaitExpires_stopped (s := s.quiet) ht]

/-! ## SAW-READY and starving -/

/-- The ages are raised up to the first place of the lane (R102). -/
theorem raiseAges_first {l : LaneNo} (ms : Nat) {before : List IdleEntry} (hb : ∀ x ∈ before, x.lane ≠ l) {e : IdleEntry}
    (he : e.lane = l) (after : List IdleEntry) :
    raiseAges l ms (before ++ e :: after) =
      before.map (fun x => { x with age := max x.age ms }) ++ { e with age := max e.age ms } :: after := by
  induction before with
  | nil => simp [raiseAges, he]
  | cons x r ih =>
    obtain ⟨hx, hr⟩ := List.forall_mem_cons.1 hb
    rw [List.cons_append, raiseAges, if_neg hx, ih hr]
    rfl

theorem exec_starveCrossing {s : State} (h : s.resetHeld = false) (l : LaneNo) :
    exec (.starveCrossing l) s = .next (s.quiet.crosses l) :=
  take_running h fun s => s.crosses l

theorem crosses_no_event {s : State} {l : LaneNo} (h : s.modes.starve = 0 ∨ ∀ e ∈ s.idleQueue, e.lane ≠ l) :
    s.crosses l = s := by
  refine if_neg ?_
  rintro ⟨positive, waits⟩
  rcases h with h | h
  · omega
  · obtain ⟨e, he, hl⟩ := List.any_eq_true.1 waits
    exact h e he (by simpa using hl)

theorem crosses_event {s : State} {l : LaneNo} (hs : 0 < s.modes.starve) {before after : List IdleEntry} {e : IdleEntry}
    (hq : s.idleQueue = before ++ e :: after) (he : e.lane = l) (hb : ∀ x ∈ before, x.lane ≠ l) :
    s.crosses l = ({ s with
      idleQueue := before.map (fun x => { x with age := max x.age (s.modes.starve * 1000) }) ++
        { e with age := max e.age (s.modes.starve * 1000) } :: after } : State).reevaluate := by
  have waits : s.idleQueue.any (fun e => e.lane == l) = true := List.any_eq_true.2 ⟨e, by simp [hq], by simpa using he⟩
  rw [State.crosses, if_pos ⟨hs, waits⟩, hq, raiseAges_first _ hb he]
  rfl

/-- Settles O37: the lines by their level, the crossing by the lane's first place in the idle queue. -/
theorem sawReadyAndStarvingReevaluate : Obligations.SawReadyAndStarvingReevaluate := by
  unfold Obligations.SawReadyAndStarvingReevaluate
  intro s l hr
  refine ⟨onLine_running hr _ State.sawRises, onLine_running hr _ id, fun h => ?_, fun before e after hs hq he hb => ?_⟩
  · rw [exec_starveCrossing hr, crosses_no_event (s := s.quiet) h]
  · rw [exec_starveCrossing hr, crosses_event (s := s.quiet) hs hq he hb]
    rfl

end Sys2Proof.Machine
end

section
/-! RUN and HOLD, the selection, and the attempts of a re-evaluation (R98 to R100, R107 to R110, R114, R119, R151, R153). -/

namespace Sys2Proof.Machine

/-! ## When an attempt is made (R98 to R100) -/

theorem mayAttempt_iff (s : State) : s.mayAttempt = true ↔
    s.gantry.state = .idle ∧ s.runMode = .run ∧ s.inputs.safety = false ∧ s.fault.entry = none := by
  simp [State.mayAttempt, and_assoc]

theorem reevaluate_barred {s : State} (h : s.gantry.state ≠ .idle ∨ s.runMode = .hold ∨ s.inputs.safety = true ∨
    s.fault.entry.isSome = true) : s.reevaluate = s := by
  refine if_neg fun may => ?_
  obtain ⟨idle, run, safety, entry⟩ := (mayAttempt_iff s).1 may
  simp [idle, run, safety, entry] at h

/-- Settles O38: both requests are accepted as they come, and a re-evaluation is made under `mayAttempt` only. -/
theorem runAndHoldSetTheMode : Obligations.RunAndHoldSetTheMode := by
  unfold Obligations.RunAndHoldSetTheMode
  refine ⟨fun b s h hb => ?_, fun s => reevaluate_barred⟩
  have length : b.payload.length = 0 := congrArg List.length hb
  exact ⟨exec_acceptedWake h .run b length rfl, exec_accepted h .hold b length rfl⟩

/-! ## The fault inputs in their order (R153) -/

theorem assertedFaults_sublist (i : Inputs) :
    i.assertedFaults.Sublist [.driveX, .driveY, .driveZ, .driveC, .limit] := by
  have drives : (i.driveFault.toList.map driveFaultKind).Sublist (allAxes.map driveFaultKind) :=
    List.filter_sublist.map _
  have limit : (if i.limit then [FaultKind.limit] else []).Sublist [.limit] := by
    split
    · exact .refl _
    · exact List.nil_sublist _
  exact drives.append limit

theorem mem_assertedFaults (i : Inputs) (k : FaultKind) : k ∈ i.assertedFaults ↔
    (k = .driveX ∧ i.driveFault.x = true) ∨ (k = .driveY ∧ i.driveFault.y = true) ∨
      (k = .driveZ ∧ i.driveFault.z = true) ∨ (k = .driveC ∧ i.driveFault.c = true) ∨
      (k = .limit ∧ i.limit = true) := by
  have drive : k ∈ i.driveFault.toList.map driveFaultKind ↔ ∃ a, i.driveFault.get a = true ∧ driveFaultKind a = k := by
    simp only [List.mem_map, AxisSet.mem_toList]
  rw [Inputs.assertedFaults, List.mem_append, drive]
  constructor
  · rintro (⟨a, asserted, rfl⟩ | asserted)
    · cases a <;> simpa [driveFaultKind, AxisSet.get] using asserted
    · obtain ⟨limit, kind⟩ : i.limit = true ∧ k = .limit := by simpa using asserted
      exact .inr (.inr (.inr (.inr ⟨kind, limit⟩)))
  · rintro (⟨rfl, asserted⟩ | ⟨rfl, asserted⟩ | ⟨rfl, asserted⟩ | ⟨rfl, asserted⟩ | ⟨rfl, asserted⟩)
    · exact .inl ⟨.x, asserted, rfl⟩
    · exact .inl ⟨.y, asserted, rfl⟩
    · exact .inl ⟨.z, asserted, rfl⟩
    · exact .inl ⟨.c, asserted, rfl⟩
    · exact .inr (by simp [asserted])

/-! ## The faults found at an entry into motion (R153 to R155, R157) -/

/-- The Fault Record with a note of this entry after `n` further faults (R154, R157, R158). -/
def FaultEntry.noted (e : FaultEntry) (n : Nat) : FaultRecord :=
  { entry := some { e with further := n }, note := true, reportKind := some e.kind, reportCount := n }

theorem firstFault_eq {s : State} (hd : s.gantry.dryRun = false) (k : FaultKind) (f : FaultState) :
    s.firstFault k f = { s with
      gantry := { s.gantry with
        state := .fault, move := .still, driveOut := s.gantry.driveOut ++ allAxes.map .stop }
      gripCounter := .stopped, releaseCounter := .stopped, blowOff := false
      valves := if s.holding then s.valves else 0
      fault := (s.faultEntry k f).noted 0 } := by
  rw [State.firstFault, stopAll_eq hd]
  rfl

theorem furtherFault_eq {s : State} {e : FaultEntry} {n : Nat} (hd : s.gantry.dryRun = false)
    (hm : s.gantry.move = .still) (hf : s.fault = e.noted n) (hn : n < 15) :
    s.furtherFault { e with further := n } = { s with
      gantry := { s.gantry with driveOut := s.gantry.driveOut ++ allAxes.map .stop }
      fault := e.noted (n + 1) } := by
  have stopped : s.stop allAxes =
      { s with gantry := { s.gantry with move := .still, driveOut := s.gantry.driveOut ++ allAxes.map .stop } } := by
    rw [State.stop, if_neg (by simp [hd]), State.axesMoving, hm]
    rfl
  rw [State.furtherFault, stopped, hf, ← hm, bump15, Nat.min_eq_right hn]
  rfl

/-- Fault inputs found asserted in FAULT are further faults (R157). -/
theorem inputFaults_further {s : State} {e : FaultEntry} {n : Nat} {ks : List FaultKind} (hd : s.gantry.dryRun = false)
    (hg : s.gantry.state = .fault) (hm : s.gantry.move = .still) (hf : s.fault = e.noted n) (hk : .drop ∉ ks)
    (hn : n + ks.length ≤ 15) :
    ks.foldl State.inputFault s = { s with
      gantry := { s.gantry with driveOut := s.gantry.driveOut ++ ks.flatMap fun _ => allAxes.map .stop }
      fault := e.noted (n + ks.length) } := by
  induction ks generalizing s n with
  | nil =>
    rw [List.flatMap_nil, List.append_nil]
    exact congrArg (fun r => ({ s with fault := r } : State)) hf
  | cons k ks ih =>
    obtain ⟨hne, hks⟩ := List.ne_and_not_mem_of_not_mem_cons hk
    rw [List.length_cons] at hn
    have taken : s.inputFault k = s.furtherFault { e with further := n } := by
      simp [State.inputFault, hd, hg, Gantry.watchesDrives, State.takeFault, hf, FaultEntry.noted, hne.symm]
    rw [List.foldl_cons, taken, furtherFault_eq hd hm hf (by omega)]
    refine Eq.trans (ih (n := n + 1) hd hg hm rfl hks (by omega)) ?_
    simp only [List.flatMap_cons, List.append_assoc, List.length_cons, Nat.add_assoc, Nat.add_comm 1]

theorem faultsFound_dryRun {s : State} (h : s.gantry.dryRun = true) : s.faultsFound = s := by
  refine List.foldlRecOn (motive := fun u => u = s) _ _ rfl fun u hu k _ => ?_
  rw [hu, State.inputFault, h]
  rfl

theorem faultsFound_none {s : State} (h : s.inputs.assertedFaults = []) : s.faultsFound = s := by
  rw [State.faultsFound, h, List.foldl_nil]

/-- The first input found asserted is a fault at the entry, each one after it a further fault. -/
theorem faultsFound_some {s : State} {f : FaultState} {k : FaultKind} {more : List FaultKind}
    (hd : s.gantry.dryRun = false) (he : s.fault.entry = none) (hg : s.gantry.state.faultState = some f)
    (hk : s.inputs.assertedFaults = k :: more) :
    s.faultsFound = { s with
      gantry := { s.gantry with
        state := .fault, move := .still,
        driveOut := s.gantry.driveOut ++ (k :: more).flatMap fun _ => allAxes.map .stop }
      gripCounter := .stopped, releaseCounter := .stopped, blowOff := false
      valves := if s.holding then s.valves else 0
      fault := (s.faultEntry k f).noted more.length } := by
  have kinds := hk ▸ assertedFaults_sublist s.inputs
  have few : more.length ≤ 4 := Nat.le_of_succ_le_succ kinds.length_le
  obtain ⟨hne, hmore⟩ := List.ne_and_not_mem_of_not_mem_cons fun h => by simpa using kinds.subset (a := .drop) h
  have watched : s.gantry.state.watchesDrives = true := by
    cases hs : s.gantry.state <;> simp [hs, Gantry.faultState, Gantry.watchesDrives] at hg ⊢
  have first : s.inputFault k = s.firstFault k f := by
    simp [State.inputFault, hd, watched, State.takeFault, he, hg, hne.symm]
  rw [State.faultsFound, hk, List.foldl_cons, first, firstFault_eq hd]
  refine Eq.trans (inputFaults_further (n := 0) hd rfl rfl rfl hmore (by omega)) ?_
  simp only [List.flatMap_cons, List.append_assoc, Nat.zero_add]

/-! ## Targets issued (R137, R151) -/

theorem issue_dryRun {s : State} (h : s.gantry.dryRun = true) (ts : List Target) :
    s.issue ts = (s.recordTargets ts).setMove (.modelled s.modes.dryMove ts) :=
  if_pos h

theorem issue_allowed {s : State} (h : s.motionAllowed = true) (ts : List Target) :
    s.issue ts =
      ((s.recordTargets ts).emit (ts.map .target)).setMove (.awaiting (AxisSet.ofList (ts.map Target.axis))) := by
  have live : ¬ s.gantry.dryRun = true := by
    simpa using (Bool.and_eq_true_iff.1 h).2
  rw [State.issue, if_neg live, if_pos h]

/-! ## The selection (R109, R110, R114, R119, R151, R153) -/

/-- The state of a selection before its targets are issued, with the last targets they leave (R109, R110, R137). -/
def State.selected (s : State) (h : Hit) : State :=
  { s with
    transfer := some h.record
    lanes := s.lanes.set h.lane { s.lane h.lane with inbound := true, bookTimer := none }
    gantry := { s.gantry with
      state := .cycling, lastX := h.placing.pick.x.pos, lastY := h.placing.pick.y.pos } }

/-- The targets of TO_STACK (R119). -/
def Hit.targets (h : Hit) : List Target :=
  [goTo .x h.placing.pick.x.pos, goTo .y h.placing.pick.y.pos, goTo .c 0]

/-- A selection outside dry run, before the faults found: its targets stand on the ports. -/
def State.selectIssued (s : State) (h : Hit) : State :=
  { s.selected h with gantry := { (s.selected h).gantry with
      move := .awaiting { x := true, y := true, z := false, c := true },
      driveOut := s.gantry.driveOut ++ h.targets.map .target } }

theorem select_dryRun {s : State} (hd : s.gantry.dryRun = true) (h : Hit) :
    s.select h = (s.selected h).setMove (.modelled s.modes.dryMove h.targets) := by
  rw [State.select, State.issueToStack, issue_dryRun, faultsFound_dryRun]
  · rfl
  all_goals exact hd

theorem select_issued {s : State} (hd : s.gantry.dryRun = false) (hs : s.inputs.safety = false) (h : Hit) :
    s.select h = (s.selectIssued h).faultsFound := by
  rw [State.select, State.issueToStack, issue_allowed]
  · rfl
  · simp [State.motionAllowed, hs, hd, Gantry.moves]

/-- A fault input found asserted at the selection is a fault of the board not yet held (R153, log 24). -/
theorem select_faulted {s : State} (hd : s.gantry.dryRun = false) (hs : s.inputs.safety = false)
    (he : s.fault.entry = none) {k : FaultKind} {more : List FaultKind} (hk : s.inputs.assertedFaults = k :: more)
    (h : Hit) :
    s.select h = { s.selectIssued h with
      gantry := { (s.selectIssued h).gantry with
        state := .fault, move := .still,
        driveOut := (s.selectIssued h).gantry.driveOut ++ (k :: more).flatMap fun _ => allAxes.map .stop }
      gripCounter := .stopped, releaseCounter := .stopped, blowOff := false, valves := 0
      fault := ((s.selectIssued h).faultEntry k .cycling).noted more.length } := by
  rw [select_issued hd hs, faultsFound_some (s := s.selectIssued h) hd he rfl hk]
  rfl

/-! ## The attempts of a re-evaluation (R107) -/

/-- How many entries of the list are live. -/
def State.liveJobs (s : State) : Nat :=
  s.store.jobs.entries.countP Job.live

theorem liveJobs_le (s : State) : s.liveJobs ≤ s.entryCount :=
  List.countP_le_length

/-- The entries that retire are none of the live ones (R36). -/
theorem countP_live_retired (es : List Job) : (es.drop (finishedHead es)).countP Job.live = es.countP Job.live := by
  have retired : (es.take (finishedHead es)).countP Job.live = 0 :=
    List.countP_eq_zero.2 fun g hg => by simp [dropped_finished es g hg]
  conv_rhs => rw [← List.take_append_drop (finishedHead es) es, List.countP_append, retired, Nat.zero_add]

/-- A live job that fails is one live entry less. -/
theorem failJob_liveJobs {s : State} {slot : Nat} {j : Job} (hj : s.jobAt slot = some j) (live : j.live = true)
    (r : Reason) : (s.finishJob slot .failed (some r)).liveJobs < s.liveJobs := by
  obtain ⟨k, hk, hkj⟩ := jobAt_eq_some.1 hj
  obtain ⟨hlt, rfl⟩ := List.getElem?_eq_some_iff.1 hkj
  have counted : 0 < s.store.jobs.entries.countP Job.live := List.countP_pos_iff.2 ⟨_, List.getElem_mem hlt, live⟩
  rw [finishJob_of_index hk hkj .failed (some r) rfl]
  simp only [State.liveJobs, countP_live_retired, List.countP_set hlt, live]
  simpa [Job.live, Job.finish] using counted

/-- What a scan has done to its state so far: nothing, or it has failed a live job. -/
def Scan.Progress (s : State) (a : Scan) : Prop :=
  (a.failed = false ∧ a.state = s) ∨ (a.failed = true ∧ a.state.liveJobs < s.liveJobs)

theorem Scan.Progress.test {s : State} {a : Scan} (h : a.Progress s) (l : LaneNo) (slot : Nat) :
    (a.test l slot).Progress s := by
  unfold Scan.test
  split
  · exact h
  · exact h
  next j hnone hj =>
  split
  · next weighed =>
    split
    · exact h
    · exact h
    · next r _ =>
      have live : j.live = true := ((eligible_iff _ j).1 (Bool.and_eq_true_iff.1 weighed).1).1
      have fewer := failJob_liveJobs hj live r
      rcases h with ⟨-, same⟩ | ⟨-, less⟩
      · exact .inr ⟨rfl, same ▸ fewer⟩
      · exact .inr ⟨rfl, fewer.trans less⟩
  · exact h

theorem scan_progress (s : State) : s.scan.Progress s := by
  rw [scan_eq_foldl]
  exact List.foldlRecOn (motive := Scan.Progress s) _ _ (.inl ⟨rfl, rfl⟩) fun a ha q _ => ha.test q.1 q.2.slot

theorem scan_unfailed {s : State} (h : s.scan.failed = false) : s.scan.state = s := by
  rcases scan_progress s with ⟨-, same⟩ | ⟨failed, -⟩
  · exact same
  · simp [h] at failed

theorem scan_failed {s : State} (h : s.scan.failed = true) : s.scan.state.liveJobs < s.liveJobs := by
  rcases scan_progress s with ⟨unfailed, -⟩ | ⟨-, less⟩
  · simp [h] at unfailed
  · exact less

/-- A scan leaves what decides whether an attempt is made. -/
theorem mayAttempt_scan (s : State) : s.scan.state.mayAttempt = s.mayAttempt := by
  obtain ⟨store, notices, cell, -⟩ := (scan_sound s).cell
  rw [cell]
  rfl

theorem attempts_selects {s : State} {h : Hit} (hh : s.scan.hit = some h) (fuel : Nat) :
    State.attempts (fuel + 1) s = s.scan.state.select h := by
  simp only [State.attempts, hh]

theorem attempts_rests {s : State} (hh : s.scan.hit = none) (hf : s.scan.failed = false) (fuel : Nat) :
    State.attempts (fuel + 1) s = s := by
  simp [State.attempts, hh, hf, scan_unfailed hf]

theorem attempts_repeats {s : State} (hh : s.scan.hit = none) (hf : s.scan.failed = true) (fuel : Nat) :
    State.attempts (fuel + 1) s = State.attempts fuel s.scan.state := by
  simp [State.attempts, hh, hf]

/-- One attempt more than there are live jobs is enough: any further fuel is left over. -/
theorem attempts_enough {n m : Nat} {s : State} (hn : s.liveJobs < n) (hm : s.liveJobs < m) :
    State.attempts n s = State.attempts m s := by
  induction n generalizing m s with
  | zero => omega
  | succ n ih =>
    obtain ⟨m, rfl⟩ := Nat.exists_eq_add_one_of_ne_zero (Nat.ne_zero_of_lt hm)
    cases hh : s.scan.hit with
    | some h => rw [attempts_selects hh, attempts_selects hh]
    | none =>
      cases hf : s.scan.failed with
      | false => rw [attempts_rests hh hf, attempts_rests hh hf]
      | true =>
        have fewer := scan_failed hf
        rw [attempts_repeats hh hf, attempts_repeats hh hf]
        exact ih (by omega) (by omega)

section Reevaluate

variable {s : State} (may : s.mayAttempt = true)

include may

theorem reevaluate_selects {h : Hit} (hh : s.scan.hit = some h) : s.reevaluate = s.scan.state.select h :=
  (if_pos may).trans (attempts_selects hh _)

theorem reevaluate_rests (hh : s.scan.hit = none) (hf : s.scan.failed = false) : s.reevaluate = s :=
  (if_pos may).trans (attempts_rests hh hf _)

/-- An attempt that fails a job and selects none is followed by a fresh one (R107). -/
theorem reevaluate_repeats (hh : s.scan.hit = none) (hf : s.scan.failed = true) :
    s.reevaluate = s.scan.state.reevaluate := by
  have fewer := scan_failed hf
  have all := liveJobs_le s
  have left := liveJobs_le s.scan.state
  have again : s.scan.state.mayAttempt = true := (mayAttempt_scan s).trans may
  rw [State.reevaluate, State.reevaluate, if_pos may, if_pos again, attempts_repeats hh hf]
  exact attempts_enough (by omega) (by omega)

end Reevaluate

/-- Settles O41: a scan leaves the cell alone, so the state selected from is the state found with its failed jobs finished; the
selection is then that of `select_dryRun`, of `select_issued` without a fault found, or of `select_faulted`. -/
theorem selectionCreatesTheRecord : Obligations.SelectionCreatesTheRecord := by
  unfold Obligations.SelectionCreatesTheRecord
  intro s hg hr hs he
  have may : s.mayAttempt = true := (mayAttempt_iff s).2 ⟨hg, hr, hs, he⟩
  refine ⟨reevaluate_rests may, reevaluate_repeats may, fun h u hh hu => ?_, mem_assertedFaults s.inputs,
    List.Pairwise.sublist ((assertedFaults_sublist s.inputs).map _) (by decide)⟩
  obtain ⟨store, notices, cell, -⟩ := (scan_sound s).cell
  rw [reevaluate_selects may hh]
  rw [cell] at hu ⊢
  subst hu
  refine ⟨fun hd => select_dryRun (s := { s with store := store, notices := notices }) hd h, fun hd hk => ?_,
    fun k more hd hk => select_faulted (s := { s with store := store, notices := notices }) hd hs he hk h⟩
  exact (select_issued (s := { s with store := store, notices := notices }) hd hs h).trans (faultsFound_none hk)

end Sys2Proof.Machine
end

section
/-! What leaves gantry state, record, valves and fault entry alone, and a property of these four through every step, once what the
transfer, the gantry and the faults do to it is known (R115, R117, R136, R154). -/

namespace Sys2Proof.Machine

/-- The gantry state, the record, the valves and the fault entry of one state are those of another. -/
@[reducible] def SameWork (s u : State) : Prop :=
  u.gantry.state = s.gantry.state ∧ u.transfer = s.transfer ∧ u.valves = s.valves ∧ u.fault.entry = s.fault.entry

section WorkUnchanged

variable (s : State)

/-! ## Drive ports, jobs and lanes -/

@[simp] theorem State.issue_sameWork (ts : List Target) : SameWork s (s.issue ts) := by
  obtain ⟨g, hg, driven⟩ := issue_frame s ts
  rw [hg]
  exact ⟨driven.state, rfl, rfl, rfl⟩

@[simp] theorem State.issueHome_sameWork (axes : List Axis) : SameWork s (s.issueHome axes) := by
  obtain ⟨g, hg, driven⟩ := issueHome_frame s axes
  rw [hg]
  exact ⟨driven.state, rfl, rfl, rfl⟩

@[simp] theorem State.stop_sameWork (axes : List Axis) : SameWork s (s.stop axes) := by
  obtain ⟨g, hg, driven⟩ := stop_frame s axes
  rw [hg]
  exact ⟨driven.state, rfl, rfl, rfl⟩

@[simp] theorem State.stopAll_sameWork : SameWork s s.stopAll := by
  obtain ⟨g, hg, driven, -⟩ := stopAll_frame s
  rw [hg]
  exact ⟨driven.state, rfl, rfl, rfl⟩

@[simp] theorem State.modifyJob_sameWork (slot : Nat) (f : Job → Job) : SameWork s (s.modifyJob slot f) := by
  rw [modifyJob_frame]
  exact ⟨rfl, rfl, rfl, rfl⟩

@[simp] theorem State.onRecordJob_sameWork (f : Job → Job) : SameWork s (s.onRecordJob f) := by
  rw [onRecordJob_frame]
  exact ⟨rfl, rfl, rfl, rfl⟩

@[simp] theorem State.finishJob_sameWork (slot : Nat) (st : JobState) (r : Option Reason) :
    SameWork s (s.finishJob slot st r) := by
  rw [finishJob_frame]
  exact ⟨rfl, rfl, rfl, rfl⟩

@[simp] theorem State.closeBook_sameWork (l : LaneNo) : SameWork s (s.closeBook l) := by
  obtain ⟨v, q, hv⟩ := closeBook_frame s l
  rw [hv]
  exact ⟨rfl, rfl, rfl, rfl⟩

@[simp] theorem State.place_sameWork (t : Transfer) : SameWork s (s.place t) := by
  obtain ⟨v, q, o, hv⟩ := place_frame s t
  rw [hv]
  exact ⟨rfl, rfl, rfl, rfl⟩

@[simp] theorem State.closeTest_sameWork (l : LaneNo) : SameWork s (s.closeTest l) := by
  obtain ⟨v, q, hv⟩ := closeTest_frame s l
  rw [hv]
  exact ⟨rfl, rfl, rfl, rfl⟩

@[simp] theorem State.takeOver_sameWork (l : LaneNo) : SameWork s (s.takeOver l).1 := by
  obtain ⟨v, q, hv⟩ := takeOver_frame s l
  rw [hv]
  exact ⟨rfl, rfl, rfl, rfl⟩

@[simp] theorem State.markSuspect_sameWork (k : StackNo) : SameWork s (s.markSuspect k) := ⟨rfl, rfl, rfl, rfl⟩

/-! ## Counters and counts -/

@[simp] theorem State.startGrip_sameWork : SameWork s s.startGrip := by
  unfold State.startGrip
  split <;> exact ⟨rfl, rfl, rfl, rfl⟩

@[simp] theorem State.startRelease_sameWork : SameWork s s.startRelease := ⟨rfl, rfl, rfl, rfl⟩

@[simp] theorem State.countPlaced_sameWork (t : Transfer) : SameWork s (s.countPlaced t) := by
  obtain ⟨store, notices, hs, -⟩ := countPlaced_frame s t
  rw [hs]
  exact ⟨rfl, rfl, rfl, rfl⟩

@[simp] theorem State.resolveCancel_sameWork (t : Transfer) : SameWork s (s.resolveCancel t) := by
  unfold State.resolveCancel
  repeat' split
  all_goals simp [SameWork]

@[simp] theorem State.settleInFlight_sameWork : SameWork s s.settleInFlight := by
  unfold State.settleInFlight
  repeat' split
  all_goals simp [SameWork]

@[simp] theorem State.scan_sameWork : SameWork s s.scan.state := by
  obtain ⟨store, notices, hu, -⟩ := (scan_sound s).cell
  rw [hu]
  exact ⟨rfl, rfl, rfl, rfl⟩

/-! ## The link and time -/

@[simp] theorem State.placeReply_sameWork (f : Frame) (r : Result) (p : List Byte) :
    SameWork s (s.placeReply f r p) := by
  unfold State.placeReply
  dsimp only
  split <;> exact ⟨rfl, rfl, rfl, rfl⟩

@[simp] theorem State.tick_sameWork : SameWork s s.tick := by
  unfold State.tick
  split <;> exact ⟨rfl, rfl, rfl, rfl⟩

end WorkUnchanged

/-- The requests of store, job list, stacks and lanes, the reads, RUN and HOLD leave gantry, record, valves and fault entry
alone; AMEND JOB and CANCEL JOB may abandon a transfer. -/
theorem answerOf_sameWork {k : RequestKind} (hk : k ∉ [RequestKind.setModes, .setTravel, .restart, .amendJob, .cancelJob,
    .home, .halt, .resume, .abort, .clearFault, .releaseHeld]) (f : Frame) (z : Nat) (s : State) :
    SameWork s (answerOf k f z s).state := by
  cases k
  case setModes | setTravel | restart | amendJob | cancelJob | home | halt | resume | abort | clearFault | releaseHeld =>
    simp at hk
  case queryStatus | readFault | readConfig | readTypes | listJobs | readStacks | run | hold => exact ⟨rfl, rfl, rfl, rfl⟩
  case parkLane | unparkLane | closeBook =>
    simp only [answerOf, answerParkLane, answerUnparkLane, answerCloseBook, State.parkLane, State.unparkLane,
      State.requestClose]
    repeat' split
    all_goals simp [SameWork, refuse, accept, acceptWake, defer]
  case partitionStore | defineType | dropType | setTypeCursor | enqueueJob | readJob | setListCursor | setStack | loadStack |
      unloadStack | setLane | readLane =>
    simp only [answerOf, answerPartitionStore, answerDefineType, answerDropType, answerSetTypeCursor, answerEnqueueJob,
      answerReadJob, answerSetListCursor, answerSetStack, answerLoadStack, answerUnloadStack, answerSetLane, answerReadLane]
    repeat' split
    all_goals exact ⟨rfl, rfl, rfl, rfl⟩

/-! ## A property of gantry state, record, valves and fault entry through every command -/

/-- A property that reads gantry state, record, valves and fault entry only, and that what changes them keeps. -/
structure WorkInvariant (P : State → Prop) : Prop where
  same : ∀ {s u}, P s → SameWork s u → P u
  select : ∀ {s} (h : Hit), s.gantry.state = .idle → P s → P (s.select h)
  completeMove : ∀ {s}, P s → P s.completeMove
  answer : ∀ {s} (k : RequestKind) (f : Frame) (z : Nat), P s → P (answerOf k f z s).state
  halt : ∀ {s}, P s → P s.halt
  inputFault : ∀ {s} (k : FaultKind), P s → P (s.inputFault k)
  holdLost : ∀ {s}, P s → P s.holdLost
  contactRises : ∀ {s} (z : Nat), P s → P (s.contactRises z)
  gripSettles : ∀ {s} (level : Bool), P s → P (s.gripSettles level)
  releaseSettles : ∀ {s}, P s → P s.releaseSettles
  poweredOn : ∀ (s : State) (strap1 strap0 : Bool), P (s.poweredOn strap1 strap0)
  underReset : ∀ {s}, P s → P s.underReset

/-- A re-evaluation keeps what a selection out of IDLE keeps. -/
theorem reevaluate_keeps {P : State → Prop} (same : ∀ {s u}, P s → SameWork s u → P u)
    (select : ∀ {s} (h : Hit), s.gantry.state = .idle → P s → P (s.select h)) {s : State} (h : P s) : P s.reevaluate := by
  have attempts (fuel : Nat) : ∀ {s : State}, s.gantry.state = .idle → P s → P (State.attempts fuel s) := by
    induction fuel with
    | zero => exact fun _ h => h
    | succ fuel ih =>
      intro s idle h
      have scanned := same h s.scan_sameWork
      have idle : s.scan.state.gantry.state = .idle := s.scan_sameWork.1.trans idle
      simp only [State.attempts]
      repeat' split
      · exact select _ idle scanned
      · exact ih idle scanned
      · exact scanned
  unfold State.reevaluate
  split
  · next may => exact attempts _ ((mayAttempt_iff s).1 may).1 h
  · exact h

namespace WorkInvariant

variable {P : State → Prop} {s t : State}

theorem reevaluate (I : WorkInvariant P) (h : P s) : P s.reevaluate :=
  reevaluate_keeps I.same I.select h

/-! ### The decoder, the receiver and the clearing -/

theorem placeReply (I : WorkInvariant P) (h : P s) (f : Frame) (r : Result) (p : List Byte) : P (s.placeReply f r p) :=
  I.same h (s.placeReply_sameWork f r p)

theorem setLink (I : WorkInvariant P) (h : P s) (k : Link) : P (s.setLink k) :=
  I.same h ⟨rfl, rfl, rfl, rfl⟩

theorem examine (I : WorkInvariant P) (h : P s) (f : Frame) (z : Nat) : P (s.examine f z) := by
  have deliver {a : Answer} (ha : P a.state) : P (a.deliver f) := by
    unfold Answer.deliver
    dsimp only
    repeat' split
    · exact ha
    · exact I.reevaluate (I.placeReply ha ..)
    · exact I.placeReply ha ..
  unfold State.examine
  repeat' split
  · exact I.placeReply h ..
  · exact I.placeReply h ..
  · exact I.placeReply h ..
  · exact deliver (I.answer _ f z h)

theorem takeHeld (I : WorkInvariant P) (h : P s) (z : Nat) : P (s.takeHeld z) := by
  unfold State.takeHeld
  split
  · exact I.examine (I.setLink h _) _ z
  · exact h

theorem frameComplete (I : WorkInvariant P) (h : P s) (f : Frame) (z : Nat) : P (s.frameComplete f z) := by
  unfold State.frameComplete
  split
  · exact I.setLink h _
  · exact I.takeHeld (I.setLink h _) z

theorem requestArrives (I : WorkInvariant P) (h : P s) (f : Frame) (z : Nat) : P (s.requestArrives f z) := by
  unfold State.requestArrives
  split
  · exact I.setLink h _
  · exact I.frameComplete h f z

theorem takeCharacter (I : WorkInvariant P) (h : P s) (v : Byte) (ok : Bool) (z : Nat) : P (s.takeCharacter v ok z) := by
  unfold State.takeCharacter State.assemble
  repeat' split
  case h_2.isTrue.isFalse.isTrue.isTrue => exact I.frameComplete (I.setLink h _) _ z
  all_goals exact I.same h ⟨rfl, rfl, rfl, rfl⟩

theorem gapExpires (I : WorkInvariant P) (h : P s) : P s.gapExpires := by
  unfold State.gapExpires
  split <;> exact I.same h ⟨rfl, rfl, rfl, rfl⟩

theorem clearingEnds (I : WorkInvariant P) (h : P s) : P s.clearingEnds := by
  unfold State.clearingEnds State.clearingReply
  repeat' split
  all_goals exact I.same h (by simp [SameWork])

theorem placeWaiting (I : WorkInvariant P) (h : P s) : P s.placeWaiting := by
  unfold State.placeWaiting
  split <;> exact I.same h (by simp [SameWork])

theorem startFrame (I : WorkInvariant P) (h : P s) (z : Nat) : P (s.startFrame z) := by
  unfold State.startFrame State.sendNext
  split
  · split
    · exact I.takeHeld (I.setLink h _) z
    · repeat' split
      all_goals exact I.same h ⟨rfl, rfl, rfl, rfl⟩
  · exact h

/-! ### The cell's events -/

theorem axisReported (I : WorkInvariant P) (h : P s) (a : Axis) : P (s.axisReported a) := by
  unfold State.axisReported
  repeat' split
  · exact I.completeMove h
  all_goals exact I.same h ⟨rfl, rfl, rfl, rfl⟩

theorem inPosition (I : WorkInvariant P) (h : P s) (a : Axis) (stale : Bool) : P (s.inPosition a stale) := by
  unfold State.inPosition
  split
  · exact h
  · exact I.axisReported h a

theorem homedReport (I : WorkInvariant P) (h : P s) (a : Axis) (stale : Bool) : P (s.homedReport a stale) := by
  unfold State.homedReport
  split
  · exact h
  · exact I.axisReported h a

theorem dryMoveEnds (I : WorkInvariant P) (h : P s) : P s.dryMoveEnds := by
  unfold State.dryMoveEnds
  split
  · exact I.completeMove (I.same h ⟨rfl, rfl, rfl, rfl⟩)
  all_goals exact h

theorem sawRises (I : WorkInvariant P) (h : P s) : P s.sawRises := by
  unfold State.sawRises
  split
  · exact h
  · exact I.reevaluate h

theorem takeOverEvent (I : WorkInvariant P) (h : P s) (l : LaneNo) : P (s.takeOverEvent l) := by
  have taken := I.same h (s.takeOver_sameWork l)
  unfold State.takeOverEvent
  split
  · exact I.reevaluate taken
  · exact taken

theorem taken (I : WorkInvariant P) (h : P s) (l : LaneNo) : P (s.taken l) := by
  unfold State.taken
  repeat' split
  · exact I.takeOverEvent h l
  all_goals exact I.same h ⟨rfl, rfl, rfl, rfl⟩

theorem laneTimerExpires (I : WorkInvariant P) (h : P s) (l : LaneNo) : P (s.laneTimerExpires l) := by
  unfold State.laneTimerExpires
  repeat' split
  · exact I.same h ⟨rfl, rfl, rfl, rfl⟩
  · exact I.takeOverEvent h l
  · exact h

theorem bookWaitExpires (I : WorkInvariant P) (h : P s) (l : LaneNo) : P (s.bookWaitExpires l) := by
  unfold State.bookWaitExpires
  split
  · exact I.same h (s.closeBook_sameWork l)
  · exact h

theorem crosses (I : WorkInvariant P) (h : P s) (l : LaneNo) : P (s.crosses l) := by
  unfold State.crosses
  split
  · exact I.reevaluate (I.same h ⟨rfl, rfl, rfl, rfl⟩)
  · exact h

/-! ### Every command -/

/-- A command taken outside reset keeps the property when its effect does. -/
theorem take (I : WorkInvariant P) (h : P s) {f : State → State} (e : s.take f = .next t) (hf : ∀ u, P u → P (f u)) :
    P t := by
  have quiet : P s.quiet := I.same h ⟨rfl, rfl, rfl, rfl⟩
  unfold State.take at e
  cases e
  split
  · exact quiet
  · exact hf _ quiet

/-- A line's command keeps the property when its event does. -/
theorem onLine (I : WorkInvariant P) (h : P s) {i : Inputs} {f : State → State} (e : s.onLine i f = .next t)
    (hf : ∀ u, P u → P (f u)) : P t := by
  have levels : P { s.quiet with inputs := i } := I.same h ⟨rfl, rfl, rfl, rfl⟩
  unfold State.onLine at e
  cases e
  split
  · exact levels
  · exact hf _ levels

/-- An effect made on an asserted level only. -/
theorem ifLevel {f : State → State} (hf : ∀ u, P u → P (f u)) (level : Bool) (u : State) (hu : P u) :
    P (if level then f u else u) := by
  split
  · exact hf u hu
  · exact hu

theorem exec (I : WorkInvariant P) (h : P s) (c : Instr) (e : exec c s = .next t) : P t := by
  cases c
  case powerOnReset => cases e; exact I.poweredOn ..
  case resetPinAsserted => cases e; exact I.underReset h
  case hostReadyAsserted => cases e; exact I.same h ⟨rfl, rfl, rfl, rfl⟩
  case characterReceived v ok z =>
    exact I.take h (f := fun u => u.takeCharacter v ok z) e fun u hu => I.takeCharacter hu v ok z
  case gapTimerExpiry => exact I.take h (f := State.gapExpires) e fun u hu => I.gapExpires hu
  case lineBreak => exact I.take h (f := fun u => u.dropFrame .break) e fun u hu => I.setLink hu _
  case storeClearingEnd => exact I.take h (f := State.clearingEnds) e fun u hu => I.clearingEnds hu
  case waitingReplyPlaced => exact I.take h (f := State.placeWaiting) e fun u hu => I.placeWaiting hu
  case frameStart z => exact I.take h (f := fun u => u.startFrame z) e fun u hu => I.startFrame hu z
  case frameSent => exact I.take h (f := State.endFrame) e fun u hu => I.setLink hu _
  case starveCrossing l => exact I.take h (f := fun u => u.crosses l) e fun u hu => I.crosses hu l
  case safetyLineAsserted => exact I.onLine h (f := State.halt) e fun u hu => I.halt hu
  case safetyLineReleased | sawReadyFall => exact I.onLine h (f := id) e fun u hu => hu
  case inPositionReport a stale z =>
    exact I.onLine h (f := fun u => u.inPosition a stale) e fun u hu => I.inPosition hu a stale
  case dryMoveElapsed => exact I.take h (f := State.dryMoveEnds) e fun u hu => I.dryMoveEnds hu
  case homedReport a stale => exact I.take h (f := fun u => u.homedReport a stale) e fun u hu => I.homedReport hu a stale
  case contactAsserted level z =>
    exact I.onLine h (f := fun u => if level then u.contactRises z else u) e
      (ifLevel (fun u hu => I.contactRises z hu) level)
  case gripSettleExpiry g => exact I.take h (f := fun u => u.gripSettles g) e fun u hu => I.gripSettles g hu
  case releaseSettleExpiry => exact I.take h (f := State.releaseSettles) e fun u hu => I.releaseSettles hu
  case dropFault level =>
    exact I.onLine h (f := fun u => if level then u.holdLost else u) e (ifLevel (fun u hu => I.holdLost hu) level)
  case driveFaultAsserted a level =>
    exact I.onLine h (f := fun u => if level then u.inputFault (driveFaultKind a) else u) e
      (ifLevel (fun u hu => I.inputFault _ hu) level)
  case limitAsserted level =>
    exact I.onLine h (f := fun u => if level then u.inputFault .limit else u) e
      (ifLevel (fun u hu => I.inputFault _ hu) level)
  case takenPulse l => exact I.take h (f := fun u => u.taken l) e fun u hu => I.taken hu l
  case sawReadyRise => exact I.onLine h (f := State.sawRises) e fun u hu => I.sawRises hu
  case laneTimerExpiry l => exact I.take h (f := fun u => u.laneTimerExpires l) e fun u hu => I.laneTimerExpires hu l
  case bookWaitExpiry l => exact I.take h (f := fun u => u.bookWaitExpires l) e fun u hu => I.bookWaitExpires hu l
  case resume b z =>
    exact I.take h (f := fun u => u.requestArrives (frameOfRequest .resume b) z) e fun u hu => I.requestArrives hu _ z
  all_goals
    exact I.take h (f := fun u => u.requestArrives { kind := _, body := _ } u.inputs.zReport) e
      fun u hu => I.requestArrives hu _ _

/-- Every step keeps the property: a command as `exec` says, and a millisecond leaves it alone. -/
theorem step (I : WorkInvariant P) (h : P s) (e : step s = .next t) : P t := by
  unfold Machine.step at e
  split at e
  · cases e
    exact I.same h s.tick_sameWork
  · next c rest _ =>
    have queued : P (s.withPending rest) := I.same h ⟨rfl, rfl, rfl, rfl⟩
    exact I.exec queued c e

end WorkInvariant

end Sys2Proof.Machine
end

section
/-! Gantry, record, held flag and valves through every step (R115 to R117, R155). -/

namespace Sys2Proof.Machine

/-! ## The record under its gantry -/

/-- The gantry states in which a record in this phase can stand (R115, R136). -/
def Gantry.hosts : Gantry → Phase → Prop
  | .cycling, p => p.ofTransfer = true
  | .halted .cycling, p => p.ofTransfer = true
  | .aborting, p => p.ofTransfer = false
  | .halted .aborting, p => p.ofTransfer = false
  | .fault, _ => True
  | .unhomed, _ => False
  | .homing _, _ => False
  | .idle, _ => False
  | .halted .homing, _ => False
  | .halted .idle, _ => False

/-- The gantry states that can be without a record: at rest, HOMING, halted out of these, or in FAULT. -/
def Gantry.unladen : Gantry → Prop
  | .unhomed => True
  | .homing _ => True
  | .idle => True
  | .halted .homing => True
  | .halted .idle => True
  | .fault => True
  | .cycling => False
  | .aborting => False
  | .halted .cycling => False
  | .halted .aborting => False

theorem Gantry.unladen_iff (g : Gantry) :
    g.unladen ↔ g ≠ .cycling ∧ g ≠ .halted .cycling ∧ g ≠ .aborting ∧ g ≠ .halted .aborting := by
  cases g with
  | halted r => cases r <;> simp [Gantry.unladen]
  | _ => simp [Gantry.unladen]

/-- A halt keeps the phases that a gantry state hosts (R136, R142). -/
theorem Gantry.halted_hosts {g : Gantry} {r : Remembered} (h : g.haltMemory = some r) {p : Phase} (hp : g.hosts p) :
    (Gantry.halted r).hosts p := by
  cases g <;> cases h <;> exact hp

theorem Gantry.halted_unladen {g : Gantry} {r : Remembered} (h : g.haltMemory = some r) (hg : g.unladen) :
    (Gantry.halted r).unladen := by
  cases g <;> cases h <;> exact hg

/-- What `State.RecordExact` asks of a record, given the gantry state and the valves. -/
structure Transfer.Sound (t : Transfer) (g : Gantry) (v : ZoneMask) : Prop where
  hosted : g.hosts t.phase
  held : t.held = true → t.phase.carries = true
  valves : v ≠ 0 → v = t.mask ∧ (t.held = true ∨ t.phase = .grip ∧ g ≠ .fault)

theorem recordExact_none {s : State} (ht : s.transfer = none) :
    s.RecordExact ↔ s.valves = 0 ∧ s.gantry.state.unladen := by
  have norecord {p : Transfer → Prop} : ¬ ∃ t, s.transfer = some t ∧ p t := by simp [ht]
  rw [Gantry.unladen_iff]
  constructor
  · intro h
    exact ⟨by_contra fun hv => norecord (h.valves hv), fun hg => norecord (h.cycling (.inl hg)),
      fun hg => norecord (h.cycling (.inr hg)), fun hg => norecord (h.aborting (.inl hg)),
      fun hg => norecord (h.aborting (.inr hg))⟩
  · rintro ⟨hv, hc, hhc, ha, hha⟩
    exact ⟨fun hg => (hg.elim hc hhc).elim, fun hg => (hg.elim ha hha).elim, by simp [ht], by simp [ht],
      fun h => absurd hv h, fun _ h => absurd hv h⟩

theorem recordExact_some {s : State} {t : Transfer} (ht : s.transfer = some t) :
    s.RecordExact ↔ t.Sound s.gantry.state s.valves := by
  have holding : s.holding = t.held := by simp [State.holding, ht]
  constructor
  · intro h
    refine ⟨?_, h.held t ht, fun hv => ?_⟩
    · rcases h.atRest (by simp [ht]) with hg | hg | hg | hg | hg
      · simp [hg, Gantry.hosts]
      · simpa [hg, Gantry.hosts, ht] using h.cycling (.inl hg)
      · simpa [hg, Gantry.hosts, ht] using h.aborting (.inl hg)
      · simpa [hg, Gantry.hosts, ht] using h.cycling (.inr hg)
      · simpa [hg, Gantry.hosts, ht] using h.aborting (.inr hg)
    · obtain ⟨u, hu, mask, held | grip⟩ := h.valves hv <;> cases ht.symm.trans hu
      · exact ⟨mask, .inl held⟩
      · by_cases hg : s.gantry.state = .fault
        · exact ⟨mask, .inl (holding ▸ h.fault hg hv)⟩
        · exact ⟨mask, .inr ⟨grip, hg⟩⟩
  · rintro ⟨hosted, held, valves⟩
    refine ⟨?_, ?_, fun _ => ?_, fun u hu => by cases ht.symm.trans hu; exact held, fun hv => ?_, fun hg hv => ?_⟩
    · rintro (hg | hg) <;> exact ⟨t, ht, by simpa [hg, Gantry.hosts] using hosted⟩
    · rintro (hg | hg) <;> exact ⟨t, ht, by simpa [hg, Gantry.hosts] using hosted⟩
    · cases hg : s.gantry.state with
      | halted r => cases r <;> simp [hg, Gantry.hosts] at hosted ⊢
      | _ => simp [hg, Gantry.hosts] at hosted ⊢
    · obtain ⟨mask, opened⟩ := valves hv
      exact ⟨t, ht, mask, opened.imp_right And.left⟩
    · obtain ⟨-, held | ⟨-, hn⟩⟩ := valves hv
      · exact holding.trans held
      · exact absurd hg hn

/-- Before the grip no board hangs under the cups (R125, R131). -/
theorem preGrip_not_carries {p : Phase} (h : p.preGrip = true) : p.carries = false := by
  revert h
  cases p <;> decide

namespace Transfer.Sound

variable {t u : Transfer} {g g' : Gantry} {v : ZoneMask}

theorem unheld (h : t.Sound g v) (hp : t.phase.carries = false) : t.held = false :=
  Bool.eq_false_iff.2 fun held => by simp [h.held held] at hp

/-- Without a held board the valves are open in GRIP only. -/
theorem closed (h : t.Sound g v) (held : t.held = false) (hp : t.phase ≠ .grip) : v = 0 :=
  by_contra fun hv => by
    obtain ⟨-, hh | ⟨hg, -⟩⟩ := h.valves hv
    · simp [held] at hh
    · exact hp hg

/-- With the valves closed and no board held only the phase counts. -/
theorem bare (hosted : g.hosts t.phase) (held : t.held = false) : t.Sound g 0 :=
  ⟨hosted, by simp [held], fun hv => absurd rfl hv⟩

theorem alike (h : t.Sound g v) (phase : u.phase = t.phase) (held : u.held = t.held) (mask : u.mask = t.mask) :
    u.Sound g v :=
  ⟨phase ▸ h.hosted, by rw [held, phase]; exact h.held, by rw [held, phase, mask]; exact h.valves⟩

/-- Another phase is entered, or another gantry state, with the board and the valves as they are. -/
theorem enter (h : t.Sound g v) (hosted : g'.hosts u.phase) (carries : t.held = true → u.phase.carries = true)
    (grip : t.phase ≠ .grip) (held : u.held = t.held) (mask : u.mask = t.mask) : u.Sound g' v where
  hosted := hosted
  held := held ▸ carries
  valves hv := by
    obtain ⟨hm, hh | ⟨hp, -⟩⟩ := h.valves hv
    · exact ⟨hm.trans mask.symm, .inl (held.trans hh)⟩
    · exact absurd hp grip

end Transfer.Sound

namespace State.RecordExact

variable {s u : State} {t : Transfer}

/-- Record, held flag and valves agree or not by the gantry state, the record and the valves alone. -/
theorem of_work (h : s.RecordExact) (state : u.gantry.state = s.gantry.state) (transfer : u.transfer = s.transfer)
    (valves : u.valves = s.valves) : u.RecordExact := by
  cases ht : s.transfer with
  | none => rwa [recordExact_none (transfer.trans ht), state, valves, ← recordExact_none ht]
  | some t => rwa [recordExact_some (transfer.trans ht), state, valves, ← recordExact_some ht]

theorem of_same (h : s.RecordExact) (e : SameWork s u) : u.RecordExact :=
  h.of_work e.1 e.2.1 e.2.2.1

theorem of_sound {g : Gantry} {v : ZoneMask} (sound : t.Sound g v) (ht : u.transfer = some t)
    (hg : u.gantry.state = g) (hv : u.valves = v) : u.RecordExact :=
  (recordExact_some ht).2 (hg ▸ hv ▸ sound)

theorem sound (h : s.RecordExact) (ht : s.transfer = some t) : t.Sound s.gantry.state s.valves :=
  (recordExact_some ht).1 h

theorem of_none (ht : u.transfer = none) (hv : u.valves = 0) (hg : u.gantry.state.unladen) : u.RecordExact :=
  (recordExact_none ht).2 ⟨hv, hg⟩

/-- A gantry at rest, homing or halted out of these has no record, and its valves are closed. -/
theorem bare (h : s.RecordExact) (hg : ∀ p, ¬ s.gantry.state.hosts p) : s.transfer = none ∧ s.valves = 0 := by
  have none : s.transfer = none := Option.eq_none_iff_forall_ne_some.2 fun t ht => hg _ (h.sound ht).hosted
  exact ⟨none, ((recordExact_none none).1 h).1⟩

theorem issue (h : s.RecordExact) {ts : List Target} : (s.issue ts).RecordExact :=
  h.of_same (s.issue_sameWork ts)

/-- Closed valves agree with every record. -/
theorem closeValves (h : s.RecordExact) (state : u.gantry.state = s.gantry.state) (transfer : u.transfer = s.transfer)
    (closed : u.valves = 0) : u.RecordExact := by
  cases ht : s.transfer with
  | none => exact of_none (transfer.trans ht) closed (state ▸ ((recordExact_none ht).1 h).2)
  | some t =>
    exact of_sound ⟨(h.sound ht).hosted, (h.sound ht).held, fun hv => absurd rfl hv⟩ (transfer.trans ht) state closed

/-- The gantry changes to a state that hosts the same phases. -/
theorem changeGantry (h : s.RecordExact) {g : Gantry} (hosts : ∀ p, s.gantry.state.hosts p → g.hosts p)
    (unladen : s.gantry.state.unladen → g.unladen) (hf : g ≠ .fault) (state : u.gantry.state = g)
    (transfer : u.transfer = s.transfer) (valves : u.valves = s.valves) : u.RecordExact := by
  cases ht : s.transfer with
  | none =>
    obtain ⟨closed, rests⟩ := (recordExact_none ht).1 h
    exact of_none (transfer.trans ht) (valves.trans closed) (state ▸ unladen rests)
  | some t =>
    have sound := h.sound ht
    exact of_sound ⟨hosts _ sound.hosted, sound.held, fun hv => (sound.valves hv).imp_right
      (Or.imp_right fun ⟨grip, _⟩ => ⟨grip, hf⟩)⟩ (transfer.trans ht) state valves

/-- A change of the record that leaves phase, held flag and mask. -/
theorem onTransfer (h : s.RecordExact) {f : Transfer → Transfer}
    (hf : ∀ t, (f t).phase = t.phase ∧ (f t).held = t.held ∧ (f t).mask = t.mask := by exact fun _ => ⟨rfl, rfl, rfl⟩) :
    (s.onTransfer f).RecordExact := by
  cases ht : s.transfer with
  | none =>
    have same : (s.onTransfer f).transfer = none := by rw [State.onTransfer_transfer, ht, Option.map_none]
    exact (recordExact_none same).2 ((recordExact_none ht).1 h)
  | some t =>
    have changed : (s.onTransfer f).transfer = some (f t) := by rw [State.onTransfer_transfer, ht, Option.map_some]
    obtain ⟨phase, held, mask⟩ := hf t
    exact (recordExact_some changed).2 ((h.sound ht).alike phase held mask)

/-- The next phase is entered with the board and the valves as they are. -/
theorem setPhase (h : s.RecordExact) (ht : s.transfer = some t) {p : Phase} (hosted : s.gantry.state.hosts p)
    (carries : t.held = true → p.carries = true) (grip : t.phase ≠ .grip) : (s.setPhase p).RecordExact :=
  of_sound ((h.sound ht).enter (u := { t with phase := p, leg := .first }) hosted carries grip rfl rfl)
    (by rw [State.setPhase_transfer, ht, Option.map_some]) rfl rfl

/-- The board is let go as a phase is entered (R127, R147). -/
theorem setPhase_letGo (ht : s.transfer = some t) {p : Phase} (hosted : s.gantry.state.hosts p) :
    (s.setPhase p).letGo.RecordExact :=
  of_sound (.bare (t := { t with phase := p, leg := .first, held := false }) hosted rfl)
    (by simp [State.letGo, ht]) rfl rfl

/-! ## The halt and faults -/

theorem halt (h : s.RecordExact) : s.halt.RecordExact := by
  unfold State.halt
  split
  · exact h
  · next r hr =>
    obtain ⟨-, transfer, valves, -⟩ := s.stopAll_sameWork
    exact h.changeGantry (fun p => Gantry.halted_hosts hr) (Gantry.halted_unladen hr) nofun rfl transfer valves

theorem boardLost (h : s.RecordExact) : s.boardLost.RecordExact := by
  obtain ⟨state, transfer, -, -⟩ := s.onRecordJob_sameWork Job.lose
  cases ht : s.transfer with
  | none => exact of_none (by simp [State.boardLost, ht]) rfl (state ▸ ((recordExact_none ht).1 h).2)
  | some t =>
    exact of_sound (.bare (t := { t with held := false }) (h.sound ht).hosted rfl)
      (by simp [State.boardLost, ht]) state rfl

/-- In FAULT only a held board keeps the valves open (R155). -/
theorem firstFault (h : s.RecordExact) (k : FaultKind) (f : FaultState) : (s.firstFault k f).RecordExact := by
  obtain ⟨-, transfer, -, -⟩ := s.stopAll_sameWork
  cases ht : s.transfer with
  | none =>
    have unheld : s.holding = false := by simp [State.holding, ht]
    exact of_none (transfer.trans ht) (by simp [State.firstFault, unheld]) trivial
  | some t =>
    have sound := h.sound ht
    have holding : s.holding = t.held := by simp [State.holding, ht]
    refine of_sound (g := .fault) ⟨trivial, sound.held, fun hv => ?_⟩ (transfer.trans ht) rfl rfl
    simp only [State.firstFault, holding] at hv ⊢
    split at hv
    · next held =>
      rw [if_pos held]
      exact ⟨(sound.valves hv).1, .inl held⟩
    · exact absurd rfl hv

theorem takeFault (h : s.RecordExact) (k : FaultKind) : (s.takeFault k).RecordExact := by
  have drop {r : State} (hr : r.RecordExact) : (if k = .drop then r.boardLost else r).RecordExact := by
    split
    · exact hr.boardLost
    · exact hr
  refine drop ?_
  split
  · exact h.firstFault k _
  · exact h
  · obtain ⟨state, transfer, valves, -⟩ := s.stop_sameWork allAxes
    exact h.of_work state transfer valves

theorem inputFault (h : s.RecordExact) (k : FaultKind) : (s.inputFault k).RecordExact := by
  unfold State.inputFault
  split
  · exact h.takeFault k
  · exact h

theorem holdLost (h : s.RecordExact) : s.holdLost.RecordExact := by
  unfold State.holdLost
  split
  · exact h.takeFault .drop
  · exact h

theorem faultsFound (h : s.RecordExact) : s.faultsFound.RecordExact :=
  List.foldlRecOn _ _ h fun _ hu k _ => hu.inputFault k

/-! ## Giving up, and the phases over the stack -/

theorem enterRetreat (ht : s.transfer = some t) (held : t.held = false) (hg : s.gantry.state = .cycling) :
    s.enterRetreat.RecordExact :=
  of_sound (.bare (t := { t with phase := .retreat, leg := .first }) (g := .cycling) rfl held)
    (by simp [State.enterRetreat, ht]) (by simp [State.enterRetreat, hg]) (by simp [State.enterRetreat])

/-- A transfer is abandoned before its grip only, when no board is held (R131, R142). -/
theorem abandonFor (h : s.RecordExact) (slot tag : Nat) : (s.abandonFor slot tag).RecordExact := by
  unfold State.abandonFor
  split
  · next hp =>
    obtain ⟨t, hs, early⟩ := (Option.any_eq_true ..).1 hp
    have ht := ((transferFor_eq_some ..).1 hs).1
    have held : t.held = false := (h.sound ht).unheld (preGrip_not_carries early)
    unfold State.abandon
    split
    · next hg => exact enterRetreat ht held hg
    · next hg =>
      exact of_sound (.bare (t := { t with phase := .retreat, leg := .first }) (g := .halted .cycling) rfl held)
        (by simp [ht]) hg rfl
    all_goals exact h
  · exact h

/-- A contact opens the record's zones in GRIP, or the transfer retreats with every zone closed (R120 to R123). -/
theorem contactEvent (ht : s.transfer = some t) (held : t.held = false) (hg : s.gantry.state = .cycling) (z : Nat) :
    (s.contactEvent z).RecordExact := by
  obtain ⟨g, hs, driven⟩ := stop_frame s [.z]
  simp only [State.contactEvent, ht, contact_stored ht, hs]
  split
  · rw [enterGrip_eq rfl]
    exact of_sound (t := { t with zc := some z, phase := .grip, leg := .first, attempts := 1 }) (g := .cycling)
      (v := t.mask) ⟨rfl, by simp [held], fun _ => ⟨rfl, .inr ⟨rfl, nofun⟩⟩⟩ rfl
      (driven.state.trans hg) rfl
  · exact enterRetreat rfl held (driven.state.trans hg)

/-- SEARCH is taken up without a board (R120). -/
theorem issueSearch (h : s.RecordExact) (ht : s.transfer = some t) (hp : t.phase = .search)
    (hg : s.gantry.state = .cycling) (z : Nat) : (s.issueSearch z).RecordExact := by
  have held : t.held = false := (h.sound ht).unheld (by rw [hp]; rfl)
  simp only [State.issueSearch, ht]
  split
  · exact contactEvent (t := { t with window := some (s.searchWindow t.ze), leg := .first }) (by simp [ht]) held
      (by simp [hg]) z
  · exact h.onTransfer.issue

theorem contactRises (h : s.RecordExact) (z : Nat) : (s.contactRises z).RecordExact := by
  unfold State.contactRises
  split
  · next hs =>
    cases ht : s.transfer with
    | none => simp [State.searching, ht] at hs
    | some t =>
      obtain ⟨hg, -, hp⟩ := (searching_iff ht).1 hs
      exact contactEvent ht ((h.sound ht).unheld (by rw [hp]; rfl)) hg z
  · exact h

/-- The end of the search descent is a contact, or a mismatch (R120 to R122). -/
theorem endDescent (ht : s.transfer = some t) (held : t.held = false) (hg : s.gantry.state = .cycling) :
    (s.endDescent t).RecordExact := by
  unfold State.endDescent
  repeat' split
  · exact contactEvent (s := s.headAt t.ze) ht held hg _
  · exact contactEvent ht held hg _
  · exact enterRetreat ht held hg

/-! ## The grip and the release -/

theorem gripExpiry (h : s.RecordExact) (ht : s.transfer = some t) (hp : t.phase = .grip) (hg : s.gantry.state = .cycling)
    (level : Bool) : (s.gripExpiry t level).RecordExact := by
  have sound := h.sound ht
  unfold State.gripExpiry
  split
  · have lifted : ((s.boardTaken t).setPhase .lift).RecordExact :=
      of_sound (t := { t with held := true, phase := .lift, leg := .first }) (g := .cycling)
        ⟨rfl, fun _ => rfl, fun hv => ⟨(sound.valves hv).1, .inl rfl⟩⟩ rfl hg rfl
    rw [gripSuccess_eq_enterLift ht]
    unfold State.enterLift
    dsimp only
    split
    · exact (lifted.issue).holdLost
    · exact lifted.issue
  · split
    · have again : (s.onTransfer fun t => { t with attempts := 2 }).RecordExact := h.onTransfer
      exact again.of_same (State.startGrip_sameWork _)
    · exact enterRetreat ht (sound.unheld (by rw [hp]; rfl)) hg

theorem gripSettles (h : s.RecordExact) (level : Bool) : (s.gripSettles level).RecordExact := by
  unfold State.gripSettles
  split
  · next hg ht =>
    split
    · next hc => exact h.gripExpiry ht hc.1 hg level
    · exact h
  · exact h

theorem releaseExpiry (h : s.RecordExact) (ht : s.transfer = some t) (hp : t.phase = .release)
    (hg : s.gantry.state = .cycling) : (s.releaseExpiry t).RecordExact := by
  have placed : SameWork s ((({ s with blowOff := false, releaseCounter := .stopped } : State).countPlaced t).place t) := by
    simp [SameWork]
  have unheld := (h.sound ht).unheld (by rw [hp]; rfl)
  exact ((h.of_same placed).setPhase (p := .rise) (placed.2.1.trans ht) (by rw [placed.1, hg]; rfl) (by simp [unheld])
    (by simp [hp])).issue

theorem rejectExpiry (h : s.RecordExact) (ht : s.transfer = some t) (hp : t.phase = .rejectRelease)
    (hg : s.gantry.state = .aborting) : s.rejectExpiry.RecordExact := by
  have rejected : SameWork s (({ s with releaseCounter := .stopped } : State).onRecordJob Job.reject) := by
    simp [SameWork]
  have unheld := (h.sound ht).unheld (by rw [hp]; rfl)
  exact ((h.of_same rejected).setPhase (p := .rejectRise) (rejected.2.1.trans ht) (by rw [rejected.1, hg]; rfl)
    (by simp [unheld]) (by simp [hp])).issue

theorem releaseSettles (h : s.RecordExact) : s.releaseSettles.RecordExact := by
  unfold State.releaseSettles
  split
  · next hg ht =>
    split
    · next hc => exact h.releaseExpiry ht hc.1 hg
    · exact h
  · next hg ht =>
    split
    · next hc => exact h.rejectExpiry ht hc.1 hg
    · exact h
  · exact h

/-! ## The end of a transfer and selection -/

/-- The record goes with the valves closed; the gantry is left without one (R129, R130, R147, R161). -/
theorem closeRecord (hv : s.valves = 0) {g : Gantry} (hg : g.unladen) (t : Transfer) :
    ((s.closeRecord t).setGantry g).RecordExact :=
  of_none rfl (by simp [State.closeRecord, hv]) hg

/-- The phases that end a transfer hold no board (R129, R130, R147). -/
theorem endTransfer (h : s.RecordExact) (ht : s.transfer = some t) (hp : t.phase.carries = false)
    (grip : t.phase ≠ .grip) : (s.endTransfer t).RecordExact :=
  closeRecord (g := .idle) ((h.sound ht).closed ((h.sound ht).unheld hp) grip) trivial t

theorem select (h : s.RecordExact) (hg : s.gantry.state = .idle) (x : Hit) : (s.select x).RecordExact := by
  have closed : s.valves = 0 := (h.bare (by simp [hg, Gantry.hosts])).2
  refine State.RecordExact.faultsFound (State.RecordExact.issue ?_)
  exact of_sound (.bare (t := x.record) (g := .cycling) rfl rfl) rfl rfl closed

theorem reevaluate (h : s.RecordExact) : s.reevaluate.RecordExact :=
  reevaluate_keeps of_same (fun x hg h => h.select hg x) h

/-! ## The completion of a move -/

theorem completePhase (h : s.RecordExact) (ht : s.transfer = some t) (hg : s.gantry.state = .cycling) :
    (s.completePhase t).RecordExact := by
  have sound := h.sound ht
  have ended (hp : t.phase.carries = false) (grip : t.phase ≠ .grip) : (s.endTransfer t).reevaluate.RecordExact :=
    (h.endTransfer ht hp grip).reevaluate
  have carried {p : Phase} (hosted : p.ofTransfer = true) (hp : p.carries = true) (grip : t.phase ≠ .grip) :
      (s.setPhase p).RecordExact := h.setPhase ht (by rw [hg]; exact hosted) (fun _ => hp) grip
  unfold State.completePhase
  split
  case h_1 hp =>
    have entered : (s.setPhase .search).RecordExact :=
      h.setPhase ht (by rw [hg]; rfl) (by simp [sound.unheld (by rw [hp]; rfl)]) (by simp [hp])
    exact entered.issueSearch (t := { t with phase := .search, leg := .first }) (by simp [ht]) rfl hg _
  case h_2 => exact h.onTransfer.issue
  case h_3 hp _ => exact endDescent ht (sound.unheld (by rw [hp]; rfl)) hg
  case h_4 hp => exact (carried rfl rfl (by simp [hp])).issue
  case h_5 hp => exact (carried rfl rfl (by simp [hp])).issue
  case h_6 => exact (setPhase_letGo ht (p := .release) (by rw [hg]; rfl)).of_same ⟨rfl, rfl, rfl, rfl⟩
  case h_7 hp => exact ended (by rw [hp]; rfl) (by simp [hp])
  case h_8 hp => exact ended (by rw [hp]; rfl) (by simp [hp])
  all_goals exact h

theorem completePutDown (h : s.RecordExact) (ht : s.transfer = some t) (hg : s.gantry.state = .aborting) :
    (s.completePutDown t).RecordExact := by
  unfold State.completePutDown
  split
  case h_1 => exact h.onTransfer.issue
  case h_2 hp _ =>
    exact (h.setPhase ht (p := .rejectLower) (by rw [hg]; rfl) (fun _ => rfl) (by simp [hp])).issue
  case h_3 => exact (setPhase_letGo ht (p := .rejectRelease) (by rw [hg]; rfl)).of_same ⟨rfl, rfl, rfl, rfl⟩
  case h_4 hp => exact (h.endTransfer ht (by rw [hp]; rfl) (by simp [hp])).reevaluate
  all_goals exact h

/-- An unladen gantry, its valves closed, goes on to another state without a record. -/
theorem goOn (h : s.RecordExact) (hg : ∀ p, ¬ s.gantry.state.hosts p) (transfer : u.transfer = s.transfer)
    (valves : u.valves = s.valves) (unladen : u.gantry.state.unladen) : u.RecordExact :=
  of_none (transfer.trans (h.bare hg).1) (valves.trans (h.bare hg).2) unladen

theorem homeZ (h : s.RecordExact) (hg : ∀ p, ¬ s.gantry.state.hosts p) : s.homeZ.RecordExact :=
  h.goOn hg (by simp [State.homeZ]) (by simp [State.homeZ]) (by simp [State.homeZ, Gantry.unladen])

theorem completeMove (h : s.RecordExact) : s.completeMove.RecordExact := by
  have still : (s.setMove .still).RecordExact := h.of_same ⟨rfl, rfl, rfl, rfl⟩
  unfold State.completeMove
  dsimp only
  split
  case h_1 hg =>
    exact still.goOn (by simp [hg, Gantry.hosts]) (by simp [State.homeRest]) (by simp [State.homeRest])
      (by simp [State.homeRest, Gantry.unladen])
  case h_2 hg =>
    exact still.goOn (by simp [hg, Gantry.hosts]) (by simp [State.homeRise]) (by simp [State.homeRise])
      (by simp [State.homeRise, Gantry.unladen])
  case h_3 hg =>
    exact (still.goOn (u := (s.setMove .still).homed) (by simp [hg, Gantry.hosts]) rfl rfl
      trivial).reevaluate
  case h_4 hg ht => exact still.completePhase ht hg
  case h_5 hg ht => exact still.completePutDown ht hg
  all_goals exact still

/-! ## The answers of the blocks -/

/-- The work of a phase is issued afresh in the phase it is (R143). -/
theorem resumePhase (h : s.RecordExact) (ht : s.transfer = some t)
    (hg : t.phase = .search → s.gantry.state = .cycling) (z : Nat) : (s.resumePhase t z).RecordExact := by
  unfold State.resumePhase
  split
  case h_2 hp => exact h.issueSearch ht hp (hg hp) z
  case h_10 =>
    obtain ⟨state, transfer, valves, -⟩ := s.stop_sameWork s.sideMoves
    exact (h.of_work state transfer valves).onTransfer.issue
  case h_3 => exact h.of_same s.startGrip_sameWork
  case h_7 | h_12 => exact h.of_same s.startRelease_sameWork
  all_goals exact h.issue

theorem resumeRecord (h : s.RecordExact) (hg : s.gantry.state = .cycling ∨ s.gantry.state = .aborting) (z : Nat) :
    (s.resumeRecord z).RecordExact := by
  unfold State.resumeRecord
  split
  · exact h
  · next t ht =>
    refine h.resumePhase ht (fun hp => hg.resolve_right fun ha => ?_) z
    have hosted := (h.sound ht).hosted
    rw [ha, hp] at hosted
    exact absurd hosted nofun

theorem resumeWork (h : s.RecordExact) {r : Remembered} (hg : s.gantry.state = .halted r) (z : Nat) :
    (s.resumeWork r z).RecordExact := by
  have restored {g : Gantry} (hosts : ∀ p, (Gantry.halted r).hosts p → g.hosts p)
      (unladen : (Gantry.halted r).unladen → g.unladen) (hf : g ≠ .fault) : (s.setGantry g).RecordExact :=
    h.changeGantry (hg ▸ hosts) (hg ▸ unladen) hf rfl rfl rfl
  cases r with
  | homing => exact h.homeZ (by simp [hg, Gantry.hosts])
  | idle => exact restored nofun (fun _ => trivial) nofun
  | cycling =>
    exact (restored (g := .cycling) (fun _ hp => hp) (fun hu => hu) nofun).resumeRecord (.inl rfl) z
  | aborting =>
    exact (restored (g := .aborting) (fun _ hp => hp) (fun hu => hu) nofun).resumeRecord (.inr rfl) z

theorem answerResume (h : s.RecordExact) (f : Frame) (z : Nat) : (answerResume f z s).state.RecordExact := by
  unfold Machine.answerResume
  repeat' split
  · exact h
  · exact h
  · next r hr =>
    have halted : s.gantry.state = .halted r := by
      cases hg : s.gantry.state <;> simp_all [Gantry.remembered]
    exact h.resumeWork halted z

theorem answerHome (h : s.RecordExact) (f : Frame) : (answerHome f s).state.RecordExact := by
  unfold Machine.answerHome
  split
  · next hg =>
    split
    · exact h
    · exact (h.homeZ (by rcases hg with hg | hg <;> simp [hg, Gantry.hosts])).faultsFound
  · exact h

/-- The put-down begins with the board held (R146). -/
theorem enterAborting (h : s.RecordExact) (ht : s.transfer = some t) (hp : t.phase.carries = true) :
    (s.enterAborting t).RecordExact := by
  have grip : t.phase ≠ .grip := fun e => by simp [e, Phase.carries] at hp
  have entered (z : Nat) : (((s.setGantry .aborting).onTransfer fun t => { t with rejectZ := some z }).setPhase
      .toReject).RecordExact :=
    of_sound ((h.sound ht).enter (g' := .aborting)
      (u := { t with rejectZ := some z, phase := .toReject, leg := .first }) rfl (fun _ => rfl) grip rfl rfl)
      (by simp [ht]) rfl rfl
  exact ((entered _).of_same (State.stop_sameWork _ _)).onTransfer.issue

theorem answerAbort (h : s.RecordExact) (f : Frame) : (answerAbort f s).state.RecordExact := by
  unfold Machine.answerAbort
  split
  case h_1 hg =>
    split
    · next t ht =>
      have retreat (hp : t.phase.carries = false) : s.enterRetreat.RecordExact :=
        enterRetreat ht ((h.sound ht).unheld hp) hg
      unfold State.abortTransfer
      split
      case h_1 hp | h_2 hp | h_3 hp => exact retreat (by rw [hp]; rfl)
      case h_4 hp | h_5 hp | h_6 hp => exact h.enterAborting ht (by rw [hp]; rfl)
      all_goals exact h
    · exact h
  all_goals exact h

theorem answerReleaseHeld (h : s.RecordExact) (f : Frame) : (answerReleaseHeld f s).state.RecordExact := by
  unfold Machine.answerReleaseHeld
  repeat' split
  case h_1.isTrue => exact h.boardLost
  case h_2.isTrue held =>
    obtain ⟨t, ht, -⟩ := (holding_iff s).1 held
    exact of_sound (.bare (t := { t with held := false, phase := .retreat, leg := .first }) (g := .halted .cycling) rfl rfl)
      (by simp [accept, State.haltedRelease, State.boardLost, ht]) rfl rfl
  all_goals exact h

/-- An accepted CLEAR FAULT finds the valves closed, since a board under vacuum refuses it (R155, R161). -/
theorem answerClearFault (h : s.RecordExact) (f : Frame) : (answerClearFault f s).state.RecordExact := by
  unfold Machine.answerClearFault
  repeat' split
  · exact h
  · exact h
  · exact h
  · next hg held =>
    have closed : s.valves = 0 := by_contra fun hv => held (h.fault (not_not.1 hg) hv)
    unfold State.settleRecord
    split
    · next ht => exact of_none ht closed trivial
    · next t ht =>
      have settled : s.settleInFlight.valves = 0 := s.settleInFlight_sameWork.2.2.1.trans closed
      exact (closeRecord (g := .unhomed) settled trivial t).of_work rfl rfl rfl

theorem answerRestart (h : s.RecordExact) (f : Frame) : (answerRestart f s).state.RecordExact := by
  unfold Machine.answerRestart
  split
  · exact h
  · next hg =>
    split
    · exact h
    · next hf =>
      show (s.restarted f).RecordExact
      by_cases fault : s.gantry.state = .fault
      · have closed : s.valves = 0 := by_contra fun hv => hf ⟨fault, h.fault fault hv⟩
        exact of_none (by simp [State.restarted, State.discardRecord, fault])
          (by simp [State.restarted, State.discardRecord, fault, closed])
          (by simp [State.restarted, State.discardRecord, fault, Gantry.unladen])
      · exact h.of_same (by simp [SameWork, State.restarted, State.discardRecord, fault])

theorem answerSetModes (h : s.RecordExact) (f : Frame) : (answerSetModes f s).state.RecordExact := by
  unfold Machine.answerSetModes
  split
  · exact h
  · next r _ =>
    split
    · exact h
    · next may =>
      show (({ s with modes := r.modes } : State).setDryRun r.dryRun).RecordExact
      have stored : ({ s with modes := r.modes } : State).RecordExact := h.of_same ⟨rfl, rfl, rfl, rfl⟩
      unfold State.setDryRun
      split
      · exact stored
      · next change =>
        have allowed : s.mayChangeDryRun = true := by_contra fun barred => may (by simp_all)
        have atRest : s.gantry.state = .unhomed ∨ s.gantry.state = .idle := by
          simp only [State.mayChangeDryRun, Bool.and_eq_true, Bool.or_eq_true, beq_iff_eq] at allowed
          exact allowed.1.1
        have unladen : ∀ p, ¬ s.gantry.state.hosts p := by rcases atRest with hg | hg <;> simp [hg, Gantry.hosts]
        unfold State.enterDryRun
        dsimp only
        repeat' split
        all_goals exact stored.goOn unladen rfl rfl trivial

theorem travelChanged (h : s.RecordExact) (z : Nat) : (s.travelChanged z).RecordExact := by
  unfold State.travelChanged
  split
  · next hg =>
    split
    · exact h.of_same ⟨rfl, rfl, rfl, rfl⟩
    · split
      · exact h
      · exact h.goOn (by simp [hg, Gantry.hosts]) rfl rfl trivial
  · exact h

theorem answerSetTravel (h : s.RecordExact) (f : Frame) : (answerSetTravel f s).state.RecordExact := by
  unfold Machine.answerSetTravel
  dsimp only
  repeat' split
  case isFalse.isFalse.isFalse.isFalse.isFalse.isFalse =>
    exact (h.of_same ⟨rfl, rfl, rfl, rfl⟩ : ({ s with travel := travelOf f.body.payload } : State).RecordExact).travelChanged _
  all_goals exact h

theorem answerAmendJob (h : s.RecordExact) (f : Frame) : (answerAmendJob f s).state.RecordExact := by
  have amended (e : Located) (a : Amendment) : (s.amended e a).RecordExact := by
    have changed := h.of_same (s.modifyJob_sameWork e.slot fun j => j.amend a)
    unfold State.amended
    dsimp only
    split
    · exact (changed.abandonFor e.slot e.job.tag).of_same (State.finishJob_sameWork ..)
    · exact changed
  unfold Machine.answerAmendJob
  repeat' split
  case h_2.isFalse.isFalse.isFalse.isFalse => exact amended _ _
  all_goals exact h

theorem answerCancelJob (h : s.RecordExact) (f : Frame) : (answerCancelJob f s).state.RecordExact := by
  unfold Machine.answerCancelJob
  repeat' split
  case h_2.isFalse.isFalse.isTrue => exact h.of_same (s.modifyJob_sameWork ..)
  case h_2.isFalse.isFalse.isFalse => exact (h.abandonFor ..).of_same (State.finishJob_sameWork ..)
  all_goals exact h

theorem answerOf (h : s.RecordExact) (k : RequestKind) (f : Frame) (z : Nat) : (answerOf k f z s).state.RecordExact := by
  cases k
  case setModes => exact h.answerSetModes f
  case setTravel => exact h.answerSetTravel f
  case restart => exact h.answerRestart f
  case amendJob => exact h.answerAmendJob f
  case cancelJob => exact h.answerCancelJob f
  case home => exact h.answerHome f
  case halt => exact h.halt
  case resume => exact h.answerResume f z
  case abort => exact h.answerAbort f
  case clearFault => exact h.answerClearFault f
  case releaseHeld => exact h.answerReleaseHeld f
  all_goals exact h.of_same (answerOf_sameWork (by decide) f z s)

end State.RecordExact

/-- The agreement of gantry, record, held flag and valves goes through every command. -/
theorem recordExact_workInvariant : WorkInvariant State.RecordExact where
  same := State.RecordExact.of_same
  select x hg h := h.select hg x
  completeMove h := h.completeMove
  answer k f z h := h.answerOf k f z
  halt h := h.halt
  inputFault k h := h.inputFault k
  holdLost h := h.holdLost
  contactRises z h := h.contactRises z
  gripSettles level h := h.gripSettles level
  releaseSettles h := h.releaseSettles
  poweredOn _ _ _ := .of_none rfl rfl trivial
  underReset h := h.closeValves rfl rfl rfl

/-- Settles O58: what changes the gantry, the record or the valves keeps their agreement, and every step is made of these. -/
theorem stepKeepsTheRecordExact : Obligations.StepKeepsTheRecordExact := by
  unfold Obligations.StepKeepsTheRecordExact
  exact fun _ _ => recordExact_workInvariant.step

end Sys2Proof.Machine
end

section
/-! The inputs that are fault events, the first fault, a further fault and the DROP (R126, R153 to R158). -/

namespace Sys2Proof.Machine

/-! ## The lines (R153, log 3) -/

/-- The event of an input that becomes asserted: HOLD-LOST counts by the board held, the others by the drives (R126, R153). -/
def State.faultEvent (s : State) (k : FaultKind) : State :=
  if k = .drop then s.holdLost else s.inputFault k

theorem faultEvent_drive (s : State) {k : FaultKind} (h : k ≠ .drop) : s.faultEvent k = s.inputFault k :=
  if_neg h

section Lines

variable {s : State} (h : s.resetHeld = false) (level : Bool)

include h

theorem exec_driveFaultAsserted (a : Axis) : exec (.driveFaultAsserted a level) s =
    .next (if level then ({ s.quiet with inputs := s.inputs.withDriveFault a level } : State).faultEvent (driveFaultKind a)
      else { s.quiet with inputs := s.inputs.withDriveFault a level }) := by
  have drive : driveFaultKind a ≠ .drop := by cases a <;> nofun
  rw [faultEvent_drive _ drive]
  exact onLine_running h _ _

theorem exec_limitAsserted : exec (.limitAsserted level) s =
    .next (if level then ({ s.quiet with inputs := s.inputs.withLimit level } : State).faultEvent .limit
      else { s.quiet with inputs := s.inputs.withLimit level }) :=
  onLine_running h _ _

theorem exec_dropFault : exec (.dropFault level) s =
    .next (if level then ({ s.quiet with inputs := s.inputs.withHoldLost level } : State).faultEvent .drop
      else { s.quiet with inputs := s.inputs.withHoldLost level }) :=
  onLine_running h _ _

end Lines

section Event

variable {s : State} {k : FaultKind}

/-- In dry run, at rest, and for HOLD-LOST without a held board or while HOMING, the input is no event (R126, R151, R153). -/
theorem faultEvent_ignored (h : s.gantry.dryRun = true ∨ s.gantry.state = .unhomed ∨ s.gantry.state = .idle ∨
    (k = .drop ∧ (s.holding = false ∨ ∃ st, s.gantry.state = .homing st))) : s.faultEvent k = s := by
  unfold State.faultEvent State.holdLost State.inputFault
  rcases h with dry | hg | hg | ⟨rfl, empty | ⟨st, hg⟩⟩
  · simp [dry]
  · simp [hg, Gantry.watchesHold, Gantry.watchesDrives]
  · simp [hg, Gantry.watchesHold, Gantry.watchesDrives]
  · simp [empty]
  · simp [hg, Gantry.watchesHold]

/-- Otherwise it is taken (R153, R154, R157). -/
theorem faultEvent_taken (live : s.gantry.dryRun = false) (hu : s.gantry.state ≠ .unhomed) (hi : s.gantry.state ≠ .idle)
    (hk : k = .drop → s.holding = true ∧ ∀ st, s.gantry.state ≠ .homing st) : s.faultEvent k = s.takeFault k := by
  unfold State.faultEvent
  split
  · next drop =>
    obtain ⟨held, homing⟩ := hk drop
    have watched : s.gantry.state.watchesHold = true := by
      cases hg : s.gantry.state <;> simp_all [Gantry.watchesHold]
    rw [State.holdLost, if_pos (by simp [live, watched, held]), drop]
  · have watched : s.gantry.state.watchesDrives = true := by
      cases hg : s.gantry.state <;> simp_all [Gantry.watchesDrives]
    rw [State.inputFault, if_pos (by simp [live, watched])]

/-! ## The effects (R154 to R157) -/

theorem takeFault_first {f : FaultState} (he : s.fault.entry = none) (hf : s.gantry.state.faultState = some f) :
    s.takeFault k = if k = .drop then (s.firstFault k f).boardLost else s.firstFault k f := by
  simp only [State.takeFault, he, hf]

theorem takeFault_further {e : FaultEntry} (he : s.fault.entry = some e) :
    s.takeFault k = if k = .drop then (s.furtherFault e).boardLost else s.furtherFault e := by
  simp only [State.takeFault, he]

/-- A further fault stops the axes and is counted (R157). -/
theorem furtherFault_stops (live : s.gantry.dryRun = false) (e : FaultEntry) : s.furtherFault e = { s with
    gantry := { s.gantry with
      move := .still, driveOut := s.gantry.driveOut ++ [.stop .x, .stop .y, .stop .z, .stop .c] }
    fault := { s.fault with
      entry := some { e with further := min 15 (e.further + 1) }, note := true,
      reportCount := min 15 (e.further + 1) } } := by
  have still : (s.axesMoving.filter fun a => !allAxes.contains a) = [] :=
    List.filter_eq_nil_iff.2 fun a _ => by cases a <;> decide
  rw [State.furtherFault, State.stop, if_neg (by simp [live]), still]
  rfl

theorem boardLost_eq {t : Transfer} (ht : s.transfer = some t) : s.boardLost = { s with
    valves := 0, transfer := some { t with held := false }, store := (s.onRecordJob Job.lose).store } := by
  rw [State.boardLost, onRecordJob_frame]
  simp only [State.onTransfer, ht, Option.map_some]

end Event

/-- Settles O50: the commands are the event of their input (`exec_dropFault` and its companions), which `faultEvent_ignored` and
`faultEvent_taken` decide; its effects are those of the first or of a further fault, with the board lost at a DROP. -/
theorem faultsAreRecorded : Obligations.FaultsAreRecorded := by
  unfold Obligations.FaultsAreRecorded
  rintro s c k level u hr ⟨i, hu, hc⟩
  have run : exec c s = .next (if level then u.faultEvent k else u) := by
    subst hu
    rcases hc with ⟨a, rfl, rfl, rfl⟩ | ⟨rfl, rfl, rfl⟩ | ⟨rfl, rfl, rfl⟩
    · exact exec_driveFaultAsserted hr level a
    · exact exec_limitAsserted hr level
    · exact exec_dropFault hr level
  rw [run]
  clear run hc
  refine ⟨fun h => ?_, fun hl live hn hi hk => ?_⟩
  · subst hu
    rcases h with rfl | h
    · rfl
    · rw [faultEvent_ignored (s := { s.quiet with inputs := i }) h, ite_self]
  rw [if_pos hl]
  have taken : u.faultEvent k = u.takeFault k := by
    subst hu
    exact faultEvent_taken (s := { s.quiet with inputs := i }) live hn hi hk
  have lost {v : State} {t : Transfer} (ht : s.transfer = some t) (transfer : v.transfer = s.transfer)
      (store : v.store = s.store) : v.boardLost = { v with
        valves := 0, transfer := some { t with held := false }, store := (s.onRecordJob Job.lose).store } := by
    rw [boardLost_eq (transfer.trans ht), onRecordJob_of_store store transfer]
  rw [taken]
  refine ⟨fun e v he hv => ?_, fun f v he hf hv => ?_⟩
  · have further : u.furtherFault e = v := by
      subst hu hv
      rw [furtherFault_stops (s := { s.quiet with inputs := i }) live]
      rfl
    rw [takeFault_further (s := u) (by subst hu; exact he), further]
    refine ⟨fun hd => by rw [if_neg hd], fun t hd ht => ?_⟩
    rw [if_pos hd, lost ht (by subst hu hv; rfl) (by subst hu hv; rfl)]
    rfl
  · have found : s.gantry.state.faultState = some f := by
      rcases hf with ⟨⟨st, hg⟩, rfl⟩ | ⟨hg, rfl⟩ | ⟨hg, rfl⟩ | ⟨⟨r, hg⟩, rfl⟩ <;> rw [hg] <;> rfl
    have first : u.firstFault k f = v := by
      subst hu hv
      rw [firstFault_eq (s := { s.quiet with inputs := i }) live]
      have remembered : s.gantry.state.remembered = match s.gantry.state with | .halted r => some r | _ => none := by
        cases s.gantry.state <;> rfl
      simp only [State.faultEntry, State.quiet_gantry, remembered]
      rfl
    rw [takeFault_first (s := u) (by subst hu; exact he) (by subst hu; exact found), first]
    refine ⟨fun hd => by rw [if_neg hd], fun t hd ht => ?_⟩
    rw [if_pos hd, lost ht (by subst hu hv; rfl) (by subst hu hv; rfl)]
    rfl

end Sys2Proof.Machine
end

section
/-! The reports of the drives and the end of a modelled move (R118, R139, R151). -/

namespace Sys2Proof.Machine

/-! ## The axes awaited -/

theorem AxisSet.toList_isEmpty (t : AxisSet) : t.toList.isEmpty = true ↔ ∀ a, t.get a = false := by
  simp only [List.isEmpty_iff, List.eq_nil_iff_forall_not_mem, AxisSet.mem_toList, Bool.not_eq_true]

theorem AxisSet.get_set (t : AxisSet) (a o : Axis) (v : Bool) : (t.set a v).get o = if o = a then v else t.get o := by
  cases a <;> cases o <;> rfl

theorem AxisSet.none_left (t : AxisSet) (a : Axis) :
    (t.set a false).toList.isEmpty = true ↔ ∀ o, o ≠ a → t.get o = false := by
  rw [AxisSet.toList_isEmpty]
  refine forall_congr' fun o => ?_
  rw [AxisSet.get_set]
  split
  · next same => simp [same]
  · next other => simp [other]

section Awaited

variable {s : State} {axes : AxisSet} {a : Axis}

theorem axisReported_unawaited (h : ∀ axes, s.gantry.move = .awaiting axes → axes.get a = false) :
    s.axisReported a = s := by
  unfold State.axisReported
  split
  · next axes hm => exact if_neg (by simp [h axes hm])
  all_goals rfl

/-- One of several awaited axes is ticked off. -/
theorem axisReported_one (hm : s.gantry.move = .awaiting axes) (ha : axes.get a = true)
    (more : ∃ o, o ≠ a ∧ axes.get o = true) : s.axisReported a = s.setMove (.awaiting (axes.set a false)) := by
  have left : ¬ (axes.set a false).toList.isEmpty = true := by
    obtain ⟨o, ho, awaited⟩ := more
    exact fun none => by simp [(axes.none_left a).1 none o ho] at awaited
  simp only [State.axisReported, hm, ha, if_true, if_neg left]

/-- The last axis awaited completes the move. -/
theorem axisReported_last (hm : s.gantry.move = .awaiting axes) (ha : axes.get a = true)
    (last : ∀ o, o ≠ a → axes.get o = false) : s.axisReported a = s.completeMove := by
  simp only [State.axisReported, hm, ha, if_true, if_pos ((axes.none_left a).2 last)]

end Awaited

/-! ## Reports (R118, R139) -/

/-- A report of the drives: homed, or in position. -/
def State.reported (s : State) (homed : Bool) (a : Axis) (stale : Bool) : State :=
  if homed then s.homedReport a stale else s.inPosition a stale

theorem awaitsHomed_iff (g : Gantry) : g.awaitsHomed = true ↔ g = .homing .one ∨ g = .homing .two := by
  cases g with
  | homing st => cases st <;> simp [Gantry.awaitsHomed]
  | _ => simp [Gantry.awaitsHomed]

/-- A report counts outside dry run, when it is of the latest move and of the kind the step waits for: a table of four flags. -/
theorem reported_eq (s : State) (homed : Bool) (a : Axis) (stale : Bool) : s.reported homed a stale =
    if stale = false ∧ s.gantry.dryRun = false ∧ homed = s.gantry.state.awaitsHomed then s.axisReported a else s := by
  unfold State.reported State.homedReport State.inPosition
  cases homed <;> cases stale <;> cases s.gantry.dryRun <;> cases s.gantry.state.awaitsHomed <;> rfl

theorem exec_inPositionReport {s : State} (h : s.resetHeld = false) (a : Axis) (stale : Bool) (z : Nat) :
    exec (.inPositionReport a stale z) s =
      .next (({ s.quiet with inputs := s.inputs.withZ z } : State).reported false a stale) :=
  onLine_running h _ fun u => u.inPosition a stale

theorem exec_homedReport {s : State} (h : s.resetHeld = false) (a : Axis) (stale : Bool) :
    exec (.homedReport a stale) s = .next (s.quiet.reported true a stale) :=
  take_running h fun u => u.homedReport a stale

/-! ## Modelled moves (R118, R151) -/

theorem dryMoveEnds_modelled {s : State} {n : Nat} {ts : List Target} (h : s.gantry.move = .modelled n ts) :
    s.dryMoveEnds = (s.headTakes ts).completeMove := by
  rw [State.dryMoveEnds, h]

theorem dryMoveEnds_idle {s : State} (h : ∀ n ts, s.gantry.move ≠ .modelled n ts) : s.dryMoveEnds = s := by
  unfold State.dryMoveEnds
  split
  · next hm => exact absurd hm (h _ _)
  all_goals rfl

theorem exec_dryMoveElapsed {s : State} (h : s.resetHeld = false) : exec .dryMoveElapsed s = .next s.quiet.dryMoveEnds :=
  take_running h _

/-- Settles O47: a report counts as `reported_eq` says and ticks off its axis; the expiry is that of a modelled move. -/
theorem reportsCompleteMoves : Obligations.ReportsCompleteMoves := by
  unfold Obligations.ReportsCompleteMoves
  intro s hr
  refine ⟨fun c a stale homed u hc => ?_, fun n ts h hm hh => ?_, fun h => ?_⟩
  · have run : exec c s = .next (u.reported homed a stale) := by
      rcases hc with ⟨rfl, z, rfl, rfl⟩ | ⟨rfl, rfl, rfl⟩
      · exact exec_inPositionReport hr a stale z
      · exact exec_homedReport hr a stale
    have same : u.gantry = s.quiet.gantry := by
      rcases hc with ⟨-, z, -, rfl⟩ | ⟨-, -, rfl⟩ <;> rfl
    have move : u.gantry.move = s.gantry.move := by rw [same]; rfl
    have reported : u.reported homed a stale = if stale = false ∧ s.gantry.dryRun = false ∧
        homed = s.gantry.state.awaitsHomed then u.axisReported a else u := by
      rw [reported_eq, same]
      rfl
    rw [run, reported]
    refine ⟨fun h => ?_, fun axes fresh live kind hm ha => ?_⟩
    · split
      · next counts =>
        obtain ⟨fresh, live, kind⟩ := counts
        have homing := awaitsHomed_iff s.gantry.state
        rw [← kind] at homing
        rcases h with old | dry | ⟨hh, h1, h2⟩ | ⟨hh, hg⟩ | unawaited
        · simp [fresh] at old
        · simp [live] at dry
        · exact ((homing.1 hh).elim h1 h2).elim
        · simp [homing.2 hg] at hh
        · rw [axisReported_unawaited fun axes hm => unawaited axes (move.symm.trans hm)]
      · rfl
    · have kind : homed = s.gantry.state.awaitsHomed := by
        rw [Bool.eq_iff_iff, kind, awaitsHomed_iff]
      rw [if_pos ⟨fresh, live, kind⟩]
      exact ⟨fun more => congrArg _ (axisReported_one (move.trans hm) ha more),
        fun last => congrArg _ (axisReported_last (move.trans hm) ha last)⟩
  · rw [exec_dryMoveElapsed hr, dryMoveEnds_modelled (s := s.quiet) hm, State.headTakes, State.quiet_gantry, hh]
    rfl
  · rw [exec_dryMoveElapsed hr, dryMoveEnds_idle (s := s.quiet) h]

end Sys2Proof.Machine
end

section
/-! The completion of a move phase: the next phase, or the end of the transfer (R118 to R121, R125, R127, R129, R130, R146, R147). -/

namespace Sys2Proof.Machine

section

variable {s : State} {t : Transfer}

/-! ## SEARCH (R120, R121) -/

/-- The approach descent of SEARCH issued, with the window it is derived from. -/
def State.approachIssued (s : State) (t : Transfer) (w : SearchWindow) : State :=
  ({ s with transfer := some { t with window := some w, leg := .first } } : State).issue [goTo .z w.start]

/-- A contact found asserted at the issue is the contact event, outside dry run. -/
theorem issueSearch_eq (ht : s.transfer = some t) (hp : t.phase = .search) (hg : s.gantry.state = .cycling)
    {w : SearchWindow} (hw : w = s.searchWindow t.ze) (z : Nat) :
    s.issueSearch z = if s.inputs.contact = true ∧ s.gantry.dryRun = false then (s.approachIssued t w).contactEvent z
      else s.approachIssued t w := by
  subst hw
  have issued : (s.onTransfer fun u => { u with window := some (s.searchWindow t.ze), leg := .first }).issue
      [goTo .z (s.searchWindow t.ze).start] = s.approachIssued t (s.searchWindow t.ze) := by
    simp only [State.onTransfer, ht, Option.map_some]
    rfl
  obtain ⟨g, frame, driven⟩ := issue_frame
    { s with transfer := some { t with window := some (s.searchWindow t.ze), leg := .first } }
    [goTo .z (s.searchWindow t.ze).start]
  have searching : (s.approachIssued t (s.searchWindow t.ze)).searching = !s.gantry.dryRun := by
    rw [State.approachIssued, frame]
    simp [State.searching, driven.state, driven.dryRun, hg, hp]
  have contact : (s.approachIssued t (s.searchWindow t.ze)).inputs.contact = s.inputs.contact := by
    rw [State.approachIssued, frame]
  simp only [State.issueSearch, ht, issued, searching, contact]
  cases s.inputs.contact <;> cases s.gantry.dryRun <;> rfl

theorem issueSearch_approaches (ht : s.transfer = some t) (hp : t.phase = .search) (hg : s.gantry.state = .cycling)
    (h : s.inputs.contact = false ∨ s.gantry.dryRun = true) {w : SearchWindow} (hw : w = s.searchWindow t.ze) (z : Nat) :
    s.issueSearch z = s.approachIssued t w := by
  rw [issueSearch_eq ht hp hg hw]
  refine if_neg ?_
  rintro ⟨contact, live⟩
  simp [contact, live] at h

theorem issueSearch_touches (ht : s.transfer = some t) (hp : t.phase = .search) (hg : s.gantry.state = .cycling)
    (contact : s.inputs.contact = true) (live : s.gantry.dryRun = false) {w : SearchWindow}
    (hw : w = s.searchWindow t.ze) (z : Nat) : s.issueSearch z = (s.approachIssued t w).contactEvent z := by
  rw [issueSearch_eq ht hp hg hw]
  exact if_pos ⟨contact, live⟩

/-! ## The completed phase -/

theorem completeMove_cycling (ht : s.transfer = some t) (hg : s.gantry.state = .cycling) :
    s.completeMove = (s.setMove .still).completePhase t := by
  simp only [State.completeMove, hg, ht]

theorem completeMove_aborting (ht : s.transfer = some t) (hg : s.gantry.state = .aborting) :
    s.completeMove = (s.setMove .still).completePutDown t := by
  simp only [State.completeMove, hg, ht]

theorem completePhase_toStack (hp : t.phase = .toStack) : s.completePhase t = s.enterSearch := by
  rw [State.completePhase, hp]

theorem completePhase_approach (hp : t.phase = .search) (hl : t.leg = .first) :
    s.completePhase t = s.issueDescent t := by
  rw [State.completePhase, hp, hl]

theorem completePhase_descent (hp : t.phase = .search) (hl : t.leg = .second) : s.completePhase t = s.endDescent t := by
  rw [State.completePhase, hp, hl]

theorem completePhase_lift (hp : t.phase = .lift) : s.completePhase t = (s.setPhase .toLane).issueToLane t := by
  rw [State.completePhase, hp]

theorem completePhase_toLane (hp : t.phase = .toLane) :
    s.completePhase t = (s.setPhase .lower).issue [goTo .z t.placeZ] := by
  rw [State.completePhase, hp]

theorem completePhase_lower (hp : t.phase = .lower) : s.completePhase t = s.enterRelease := by
  rw [State.completePhase, hp]

theorem completePutDown_rise (hp : t.phase = .toReject) (hl : t.leg = .first) :
    s.completePutDown t = s.issueTraverse := by
  rw [State.completePutDown, hp, hl]

theorem completePutDown_traverse (hp : t.phase = .toReject) (hl : t.leg = .second) :
    s.completePutDown t = (s.setPhase .rejectLower).issueRejectLower t := by
  rw [State.completePutDown, hp, hl]

theorem completePutDown_lower (hp : t.phase = .rejectLower) : s.completePutDown t = s.enterRejectRelease := by
  rw [State.completePutDown, hp]

theorem issueDescent_window {w : SearchWindow} (hw : t.window = some w) :
    s.issueDescent t = (s.onTransfer fun t => { t with leg := .second }).issue [searchTo w.limit] := by
  simp only [State.issueDescent, hw]

theorem issueRejectLower_computed {z : Nat} (hz : t.rejectZ = some z) : s.issueRejectLower t = s.issue [goTo .z z] := by
  simp only [State.issueRejectLower, hz]

/-! ## The end of the search descent (R120, R122, log 23) -/

theorem endDescent_dryRun (hd : s.gantry.dryRun = true) : s.endDescent t = (s.headAt t.ze).contactEvent t.ze :=
  if_pos hd

theorem endDescent_contact (hd : s.gantry.dryRun = false) (hc : s.inputs.contact = true) :
    s.endDescent t = s.contactEvent s.inputs.zReport := by
  rw [State.endDescent, if_neg (by simp [hd]), if_pos hc]

theorem endDescent_missed (hd : s.gantry.dryRun = false) (hc : s.inputs.contact = false) :
    s.endDescent t = (s.markSuspect t.stack).enterRetreat := by
  rw [State.endDescent, if_neg (by simp [hd]), if_neg (by simp [hc])]

/-! ## The record changed -/

/-- A phase entered, with its leg set back. -/
theorem setPhase_eq (ht : s.transfer = some t) (p : Phase) :
    s.setPhase p = { s with transfer := some { t with phase := p, leg := .first } } := by
  simp only [State.setPhase, State.onTransfer, ht, Option.map_some]

theorem onTransfer_eq (ht : s.transfer = some t) (f : Transfer → Transfer) :
    s.onTransfer f = { s with transfer := some (f t) } := by
  simp only [State.onTransfer, ht, Option.map_some]

/-! ## The end of the transfer (R30, R129, R130, R147) -/

theorem resolveCancel_unasked (h : ∀ j, s.recordJob = some j → j.cancelPending = false) (t : Transfer) :
    s.resolveCancel t = s := by
  unfold State.resolveCancel
  split
  · rfl
  · next j hj => exact if_neg (by simp [h j hj])

theorem resolveCancel_pending {j : Job} (hj : s.recordJob = some j) (h : j.cancelPending = true) (t : Transfer) :
    s.resolveCancel t = s.finishJob t.jobSlot .cancelled none := by
  simp only [State.resolveCancel, hj, h, if_true]

/-- The record goes after the close test, and the gantry is IDLE. -/
theorem endTransfer_eq {u : State} (hu : s.resolveCancel t = u) (gantry : u.gantry = s.gantry) :
    s.endTransfer t = { u.closeTest t.lane with transfer := none, gantry := { s.gantry with state := .idle } } := by
  obtain ⟨v, q, frame⟩ := closeTest_frame u t.lane
  rw [State.endTransfer, State.closeRecord, hu, frame, ← gantry]
  rfl

/-- The phases that end a transfer complete with its end and a re-evaluation. -/
theorem completeMove_ends (ht : s.transfer = some t)
    (h : (s.gantry.state = .cycling ∧ (t.phase = .rise ∨ t.phase = .retreat)) ∨
      (s.gantry.state = .aborting ∧ t.phase = .rejectRise)) :
    s.completeMove = ((s.setMove .still).endTransfer t).reevaluate := by
  rcases h with ⟨hg, hp | hp⟩ | ⟨hg, hp⟩
  · rw [completeMove_cycling ht hg, State.completePhase, hp]
  · rw [completeMove_cycling ht hg, State.completePhase, hp]
  · rw [completeMove_aborting ht hg, State.completePutDown, hp]

end

/-- Settles O48: the completion is that of the phase, each with its targets; a transfer ends by `completeMove_ends`. -/
theorem completedMovesAdvanceThePhase : Obligations.CompletedMovesAdvanceThePhase := by
  unfold Obligations.CompletedMovesAdvanceThePhase
  intro s u t ht hu
  have still : s.setMove .still = u := hu.symm
  have record : u.transfer = some t := by rw [hu]; exact ht
  have searching : (u.setPhase .search).transfer = some { t with phase := .search, leg := .first } := by
    rw [setPhase_eq record]
  refine ⟨fun hg => ?_, fun hg => ?_, fun h => ?_⟩
  · have cycling : (u.setPhase .search).gantry.state = .cycling := by subst hu; exact hg
    rw [completeMove_cycling ht hg, still]
    refine ⟨fun w hp hc hw => ?_, fun w hp hc hd hw => ?_, fun w hp hl hw => ?_, fun hp hl hd => ?_,
      fun hp hl hd hc => ?_, fun hp hl hd hc => ?_, fun hp => ?_, fun hp => ?_, fun hp => ?_⟩
    · rw [completePhase_toStack hp, State.enterSearch,
        issueSearch_approaches searching rfl cycling (by subst hu; exact hc) (by subst hu; exact hw), setPhase_eq record]
      rfl
    · rw [completePhase_toStack hp, State.enterSearch,
        issueSearch_touches searching rfl cycling (by subst hu; exact hc) (by subst hu; exact hd)
          (by subst hu; exact hw), setPhase_eq record]
      subst hu
      rfl
    · rw [completePhase_approach hp hl, issueDescent_window hw, onTransfer_eq record]
    · rw [completePhase_descent hp hl, endDescent_dryRun (by subst hu; exact hd)]
      subst hu
      rfl
    · rw [completePhase_descent hp hl, endDescent_contact (by subst hu; exact hd) (by subst hu; exact hc)]
      subst hu
      rfl
    · rw [completePhase_descent hp hl, endDescent_missed (by subst hu; exact hd) (by subst hu; exact hc)]
      subst hu
      rfl
    · rw [completePhase_lift hp, setPhase_eq record]
      rfl
    · rw [completePhase_toLane hp, setPhase_eq record]
    · rw [completePhase_lower hp, State.enterRelease, setPhase_eq record]
      subst hu
      rfl
  · rw [completeMove_aborting ht hg, still]
    refine ⟨fun hp hl => ?_, fun z hp hl hz => ?_, fun hp => ?_⟩
    · rw [completePutDown_rise hp hl, State.issueTraverse, onTransfer_eq record]
      subst hu
      rfl
    · rw [completePutDown_traverse hp hl, issueRejectLower_computed hz, setPhase_eq record]
    · rw [completePutDown_lower hp, State.enterRejectRelease, setPhase_eq record]
      subst hu
      rfl
  · have job : u.recordJob = s.recordJob := by subst hu; rfl
    rw [completeMove_ends ht h, still]
    refine ⟨fun unasked => ?_, fun j hj pending => ?_⟩
    · rw [endTransfer_eq (resolveCancel_unasked (job ▸ unasked) t) rfl]
    · rw [endTransfer_eq (resolveCancel_pending (job.trans hj) pending t) (by rw [finishJob_frame])]

end Sys2Proof.Machine
end

section
/-! RESUME (R120, R137, R143, R146, R147). -/

namespace Sys2Proof.Machine

/-! ## The answer -/

theorem remembered_none {g : Gantry} (h : ∀ r, g ≠ .halted r) : g.remembered = none := by
  cases g with
  | halted r => exact absurd rfl (h r)
  | _ => rfl

section Answered

variable {b : Body} {z : Nat} {s : State}

theorem exec_resume (h : s.ready) (hb : b.payload = []) : exec (.resume b z) s =
    .next ((answerResume (frameOfRequest .resume b) z s.quiet).deliver (frameOfRequest .resume b)) :=
  exec_request_ready h .resume b (congrArg List.length hb) z

/-- The remembered state is restored and its work taken up; IDLE brings a selection attempt about (R100, R143). -/
theorem exec_resumed (h : s.ready) (hb : b.payload = []) (hs : s.inputs.safety = false) {r : Remembered}
    (hg : s.gantry.state = .halted r) : exec (.resume b z) s = .next
      (if r = .idle then ((s.quiet.resumeWork r z).withReply 0x1F b .ok []).reevaluate
        else (s.quiet.resumeWork r z).withReply 0x1F b .ok []) := by
  have answer : answerResume (frameOfRequest .resume b) z s.quiet =
      { accept (s.quiet.resumeWork r z) with wake := r == .idle } := by
    simp [answerResume, hs, hg, Gantry.remembered]
  rw [exec_resume h hb, answer]
  cases r
  case idle => exact congrArg _ (deliver_acceptWake _ .resume b)
  all_goals exact congrArg _ (deliver_accept _ .resume b)

end Answered

/-! ## The work of the remembered state (R143) -/

section Work

variable {s : State} {t : Transfer}

/-- A gantry that homes again is awaited on Z, which it homes first. -/
theorem homeZ_live (hs : s.inputs.safety = false) (hd : s.gantry.dryRun = false) : s.homeZ = { s with
    gantry := { s.gantry with
      state := .homing .one, move := .awaiting { x := false, y := false, z := true, c := false }
      driveOut := s.gantry.driveOut ++ [.home .z] } } := by
  have allowed : (s.setGantry (.homing .one)).motionAllowed = true := by
    simp [State.motionAllowed, Gantry.moves, hs, hd]
  rw [State.homeZ, State.issueHome, if_neg (by simp [hd]), if_pos allowed]
  rfl

theorem resumeRecord_some (ht : s.transfer = some t) (z : Nat) : s.resumeRecord z = s.resumePhase t z := by
  rw [State.resumeRecord, ht]

/-- The phases of a transfer whose targets are issued afresh. -/
theorem resumePhase_issues {ts : List Target} (z : Nat)
    (h : (t.phase = .toStack ∧ ts = [goTo .x t.pickX, goTo .y t.pickY, goTo .c 0]) ∨
      ((t.phase = .lift ∨ t.phase = .retreat ∨ t.phase = .rejectRise) ∧ ts = [goTo .z s.travel.ztravel]) ∨
      (t.phase = .toLane ∧ ts = [goTo .x t.placeX, goTo .y t.placeY, goTo .c t.key.rotation.degrees]) ∨
      (t.phase = .lower ∧ ts = [goTo .z t.placeZ]) ∨
      (t.phase = .rise ∧ ts = [goTo .z s.travel.ztravel, goTo .c 0])) : s.resumePhase t z = s.issue ts := by
  rcases h with ⟨hp, rfl⟩ | ⟨hp | hp | hp, rfl⟩ | ⟨hp, rfl⟩ | ⟨hp, rfl⟩ | ⟨hp, rfl⟩ <;> rw [State.resumePhase, hp] <;> rfl

theorem resumePhase_search (hp : t.phase = .search) (z : Nat) : s.resumePhase t z = s.issueSearch z := by
  rw [State.resumePhase, hp]

theorem resumePhase_grip (ht : s.transfer = some t) (hp : t.phase = .grip) (z : Nat) : s.resumePhase t z =
    { s with gripCounter := .running (s.modes.settleOf (s.typeEntry t.key.type).cls) } := by
  rw [State.resumePhase, hp]
  simp only [State.startGrip, ht]

theorem resumePhase_settle (hp : t.phase = .release ∨ t.phase = .rejectRelease) (z : Nat) :
    s.resumePhase t z = { s with releaseCounter := .running s.modes.release } := by
  rcases hp with hp | hp <;> rw [State.resumePhase, hp] <;> rfl

/-- With no move in progress there is nothing to stop. -/
theorem stop_still (h : s.gantry.move = .still) : s.stop s.sideMoves = s := by
  have none : s.axesMoving = [] := by rw [State.axesMoving, h]
  have same : s.setMove .still = s := by rw [State.setMove, ← h]
  have silent : s.emit [] = s := by rw [State.emit, List.append_nil]
  rw [State.sideMoves, none, State.stop, none]
  split
  · exact same
  · exact (congrArg (State.setMove · .still) silent).trans same

theorem resumePhase_rejectRise (ht : s.transfer = some t) (hp : t.phase = .toReject) (hm : s.gantry.move = .still)
    (z : Nat) : s.resumePhase t z =
      ({ s with transfer := some { t with leg := .first } } : State).issue [goTo .z s.travel.ztravel] := by
  have rise : s.resumePhase t z = s.issueRejectRise := by rw [State.resumePhase, hp]
  rw [rise, State.issueRejectRise, stop_still hm, onTransfer_eq ht]

theorem resumePhase_rejectLower (hp : t.phase = .rejectLower) {p : Nat} (hz : t.rejectZ = some p) (z : Nat) :
    s.resumePhase t z = s.issue [goTo .z p] := by
  rw [State.resumePhase, hp]
  exact issueRejectLower_computed hz

end Work

/-- Settles O44: `exec_resumed` restores the remembered state, and the work of the record's phase is one of the `resumePhase`
equations; SEARCH is taken up as `issueSearch_approaches` and `issueSearch_touches` say. -/
theorem resumeTakesTheWorkUpAgain : Obligations.ResumeTakesTheWorkUpAgain := by
  unfold Obligations.ResumeTakesTheWorkUpAgain
  intro b z s h hb
  refine ⟨fun hs => ?_, fun hs hg => ?_, fun hs hg => ?_, fun hs hg hd => ?_, fun t hs hg ht => ?_, fun t hs hg ht => ?_⟩
  · have answer : answerResume (frameOfRequest .resume b) z s.quiet = refuse .safetyActive s.quiet := if_pos hs
    rw [exec_resume h hb, answer, deliver_refuse]
    rfl
  · have answer : answerResume (frameOfRequest .resume b) z s.quiet = refuse .gantryState s.quiet := by
      simp [answerResume, hs, remembered_none hg]
    rw [exec_resume h hb, answer, deliver_refuse]
    rfl
  · exact exec_resumed h hb hs hg
  · rw [exec_resumed h hb hs hg]
    simp only [State.resumeWork, homeZ_live (s := s.quiet) hs hd]
    rfl
  · have record : (s.quiet.setGantry .cycling).transfer = some t := ht
    have resumed {v : State} (hv : (s.quiet.setGantry .cycling).resumePhase t z = v) :
        exec (.resume b z) s = .next (v.withReply 0x1F b .ok []) := by
      have work : s.quiet.resumeWork .cycling z = v :=
        (resumeRecord_some record z).trans hv
      rw [exec_resumed h hb hs hg, if_neg nofun, work]
    refine ⟨fun ts hp => resumed (resumePhase_issues z ?_), fun w hp hw => ⟨fun hc => ?_, fun hc hd => ?_⟩,
      fun hp => resumed (resumePhase_grip record hp z), fun hp => resumed (resumePhase_settle (.inl hp) z)⟩
    · exact hp.imp_right (Or.imp_left (And.imp_left (Or.imp_right .inl)))
    · exact resumed ((resumePhase_search hp z).trans (issueSearch_approaches record hp rfl hc hw z))
    · exact resumed ((resumePhase_search hp z).trans (issueSearch_touches record hp rfl hc hd hw z))
  · have record : (s.quiet.setGantry .aborting).transfer = some t := ht
    have resumed {v : State} (hv : (s.quiet.setGantry .aborting).resumePhase t z = v) :
        exec (.resume b z) s = .next (v.withReply 0x1F b .ok []) := by
      have work : s.quiet.resumeWork .aborting z = v :=
        (resumeRecord_some record z).trans hv
      rw [exec_resumed h hb hs hg, if_neg nofun, work]
    refine ⟨fun hp hm => resumed (resumePhase_rejectRise record hp hm z), fun p hp => ?_,
      fun hp => resumed (resumePhase_settle (.inr hp) z)⟩
    rcases hp with ⟨hp, hz⟩ | ⟨hp, rfl⟩
    · exact resumed (resumePhase_rejectLower hp hz z)
    · exact resumed (resumePhase_issues z (.inr (.inl ⟨.inr (.inr hp), rfl⟩)))

end Sys2Proof.Machine
end

section
/-! HOME and the steps of homing (R138, R139, R153). -/

namespace Sys2Proof.Machine

/-! ## Home commands issued (R137, R139) -/

section Home

variable {s : State}

theorem issueHome_dryRun (hd : s.gantry.dryRun = true) (axes : List Axis) :
    s.issueHome axes = s.setMove (.modelled s.modes.dryMove []) :=
  if_pos hd

theorem issueHome_allowed (h : s.motionAllowed = true) (axes : List Axis) :
    s.issueHome axes = (s.emit (axes.map .home)).setMove (.awaiting (AxisSet.ofList axes)) := by
  have live : ¬ s.gantry.dryRun = true := by
    simpa using (Bool.and_eq_true_iff.1 h).2
  rw [State.issueHome, if_neg live, if_pos h]

/-- A HOMING gantry may move its drives with the safety line clear and outside dry run (R137). -/
theorem motionAllowed_homing (hs : s.inputs.safety = false) (hd : s.gantry.dryRun = false) (step : HomingStep) :
    (s.setGantry (.homing step)).motionAllowed = true := by
  simp [State.motionAllowed, Gantry.moves, hs, hd]

/-! ## What a step issues (R138, R139) -/

theorem homeZ_dryRun (hd : s.gantry.dryRun = true) : s.homeZ = { s with
    gantry := { s.gantry with state := .homing .one, move := .modelled s.modes.dryMove [] } } :=
  issueHome_dryRun (s := s.setGantry (.homing .one)) hd _

theorem homeRest_live (hs : s.inputs.safety = false) (hd : s.gantry.dryRun = false) : s.homeRest = { s with
    gantry := { s.gantry with
      state := .homing .two, move := .awaiting { x := true, y := true, z := false, c := true }
      driveOut := s.gantry.driveOut ++ [.home .x, .home .y, .home .c] } } :=
  issueHome_allowed (motionAllowed_homing hs hd .two) _

theorem homeRest_dryRun (hd : s.gantry.dryRun = true) : s.homeRest = { s with
    gantry := { s.gantry with state := .homing .two, move := .modelled s.modes.dryMove [] } } :=
  issueHome_dryRun (s := s.setGantry (.homing .two)) hd _

theorem homeRise_live (hs : s.inputs.safety = false) (hd : s.gantry.dryRun = false) : s.homeRise = { s with
    gantry := { s.gantry with
      state := .homing .three, lastZ := s.travel.ztravel
      move := .awaiting { x := false, y := false, z := true, c := false }
      driveOut := s.gantry.driveOut ++ [.target (goTo .z s.travel.ztravel)] } } :=
  issue_allowed (motionAllowed_homing hs hd .three) _

theorem homeRise_dryRun (hd : s.gantry.dryRun = true) : s.homeRise = { s with
    gantry := { s.gantry with
      state := .homing .three, lastZ := s.travel.ztravel
      move := .modelled s.modes.dryMove [goTo .z s.travel.ztravel] } } :=
  issue_dryRun (s := s.setGantry (.homing .three)) hd _

/-- Outside dry run there is no modelled head to set. -/
theorem homed_live (hd : s.gantry.dryRun = false) :
    s.homed = { s with gantry := { s.gantry with state := .idle, noteHomed := true } } := by
  simp [State.homed, hd]

theorem homed_dryRun (hd : s.gantry.dryRun = true) : s.homed = { s with
    gantry := { s.gantry with state := .idle, noteHomed := true, head := some s.headHome } } := by
  simp [State.homed, hd]

/-! ## HOME (R138) -/

theorem answerHome_moving (hu : s.gantry.state ≠ .unhomed) (hi : s.gantry.state ≠ .idle) (f : Frame) :
    answerHome f s = refuse .gantryState s := by
  rw [answerHome, if_neg (by simp [hu, hi])]

theorem answerHome_safety (hg : s.gantry.state = .unhomed ∨ s.gantry.state = .idle) (hs : s.inputs.safety = true)
    (f : Frame) : answerHome f s = refuse .safetyActive s := by
  rw [answerHome, if_pos hg, if_pos hs]

theorem answerHome_accepted (hg : s.gantry.state = .unhomed ∨ s.gantry.state = .idle) (hs : s.inputs.safety = false)
    (f : Frame) : answerHome f s = accept s.homeZ.faultsFound := by
  rw [answerHome, if_pos hg, if_neg (by simp [hs])]

/-! ## The steps (R139) -/

theorem completeMove_homingOne (hg : s.gantry.state = .homing .one) : s.completeMove = (s.setMove .still).homeRest := by
  simp only [State.completeMove, hg]

theorem completeMove_homingTwo (hg : s.gantry.state = .homing .two) : s.completeMove = (s.setMove .still).homeRise := by
  simp only [State.completeMove, hg]

theorem completeMove_homingThree (hg : s.gantry.state = .homing .three) :
    s.completeMove = (s.setMove .still).homed.reevaluate := by
  simp only [State.completeMove, hg]

end Home

/-- Settles O42: an accepted HOME is `homeZ` with the faults found at it; each completed step issues the next one. -/
theorem homingTakesThreeSteps : Obligations.HomingTakesThreeSteps := by
  unfold Obligations.HomingTakesThreeSteps
  refine ⟨fun b s h hb => ⟨fun hu hi => ?_, fun hg => ?_⟩, fun s => ⟨fun hg hd hs => ?_, fun hg hd hs => ?_,
    fun hg hd => ?_, fun hg hd => ?_, fun hg hd => ?_, fun hg hd => ?_⟩⟩
  · exact exec_refused h .home b (congrArg List.length hb)
      (answerHome_moving (s := s.quiet) hu hi (frameOfRequest .home b))
  · have accepted {u : State} (hs : s.inputs.safety = false) (hu : s.quiet.homeZ.faultsFound = u) :
        exec (.home b) s = .next (u.withReply 0x1B b .ok []) :=
      exec_accepted h .home b (congrArg List.length hb)
        ((answerHome_accepted (s := s.quiet) hg hs (frameOfRequest .home b)).trans (congrArg accept hu))
    refine ⟨fun hs => ?_, fun hs hd clear => accepted hs ?_, fun hs hd => accepted hs ?_,
      fun k more hs hd he asserted => accepted hs ?_⟩
    · exact exec_refused h .home b (congrArg List.length hb)
        (answerHome_safety (s := s.quiet) hg hs (frameOfRequest .home b))
    · rw [homeZ_live (s := s.quiet) hs hd]
      exact faultsFound_none clear
    · rw [homeZ_dryRun (s := s.quiet) hd]
      exact faultsFound_dryRun hd
    · rw [homeZ_live (s := s.quiet) hs hd]
      exact faultsFound_some (f := .homing) hd he rfl asserted
  · exact (completeMove_homingOne hg).trans (homeRest_live (s := s.setMove .still) hs hd)
  · exact (completeMove_homingTwo hg).trans (homeRise_live (s := s.setMove .still) hs hd)
  · rw [completeMove_homingThree hg, homed_live (s := s.setMove .still) hd]
    rfl
  · exact (completeMove_homingOne hg).trans (homeRest_dryRun (s := s.setMove .still) hd)
  · exact (completeMove_homingTwo hg).trans (homeRise_dryRun (s := s.setMove .still) hd)
  · rw [completeMove_homingThree hg, homed_dryRun (s := s.setMove .still) hd]
    rfl

end Sys2Proof.Machine
end

section
/-! HALT and the safety line (R140 to R142). -/

namespace Sys2Proof.Machine

/-! ## The halt (R142) -/

section Halt

variable {s : State}

/-- In dry run no stop command is issued (R137). -/
theorem stopAll_stops : s.stopAll = { s with gantry := { s.gantry with
    move := .still,
    driveOut := s.gantry.driveOut ++
      if s.gantry.dryRun then [] else [.stop .x, .stop .y, .stop .z, .stop .c] } } := by
  split
  · next hd =>
    rw [State.stopAll, State.stop, if_pos hd, List.append_nil]
    rfl
  · next hd => exact stopAll_eq (by simpa using hd)

/-- In UNHOMED, HALTED and FAULT there is nothing to halt (R140, R141). -/
theorem halt_unchanged (h : s.gantry.state = .unhomed ∨ (∃ r, s.gantry.state = .halted r) ∨ s.gantry.state = .fault) :
    s.halt = s := by
  rcases h with h | ⟨r, h⟩ | h <;> simp only [State.halt, h, Gantry.haltMemory]

theorem haltMemory_eq {g : Gantry} {r : Remembered} (h : ((∃ step, g = .homing step) ∧ r = .homing) ∨
    (g = .idle ∧ r = .idle) ∨ (g = .cycling ∧ r = .cycling) ∨ (g = .aborting ∧ r = .aborting)) :
    g.haltMemory = some r := by
  rcases h with ⟨⟨step, rfl⟩, rfl⟩ | ⟨rfl, rfl⟩ | ⟨rfl, rfl⟩ | ⟨rfl, rfl⟩ <;> rfl

/-- A halt stops every axis, remembers the state and pauses the counters. -/
theorem halt_eq {r : Remembered} (h : s.gantry.state.haltMemory = some r) : s.halt = { s with
    gantry := { s.gantry with
      state := .halted r, noteHalted := true, move := .still,
      driveOut := s.gantry.driveOut ++
        if s.gantry.dryRun then [] else [.stop .x, .stop .y, .stop .z, .stop .c] }
    gripCounter := s.gripCounter.pause, releaseCounter := s.releaseCounter.pause } := by
  simp only [State.halt, h, stopAll_stops]
  rfl

end Halt

/-- Settles O43: HALT and the asserted line make the same `State.halt`, on the quiet state with its levels. -/
theorem haltStopsWithoutGivingUp : Obligations.HaltStopsWithoutGivingUp := by
  unfold Obligations.HaltStopsWithoutGivingUp
  intro s
  have request {u : State} (hu : s.quiet.halt = u) (b : Body) (h : s.ready) (hb : b.payload = []) :
      exec (.halt b) s = .next (u.withReply 0x1E b .ok []) :=
    exec_accepted h .halt b (congrArg List.length hb) (congrArg accept hu)
  have line {u : State} (hu : ({ s.quiet with inputs := { s.inputs with safety := true } } : State).halt = u)
      (h : s.resetHeld = false) : exec .safetyLineAsserted s = .next u :=
    (onLine_running h _ _).trans (congrArg Host.Outcome.next hu)
  refine ⟨fun r g grip release hr hg hgrip hrelease => ?_, fun hg => ?_, fun h => onLine_running h _ _⟩
  · have halted (i : Inputs) : ({ s.quiet with inputs := i } : State).halt =
        { s.quiet with gantry := g, gripCounter := grip, releaseCounter := release, inputs := i } := by
      subst hg hgrip hrelease
      exact halt_eq (s := { s.quiet with inputs := i }) (haltMemory_eq hr)
    exact ⟨request (halted s.inputs), line (halted _)⟩
  · exact ⟨request (halt_unchanged hg), line (halt_unchanged (s := { s.quiet with inputs := _ }) hg)⟩

end Sys2Proof.Machine
end

section
/-! ABORT, the entries into RETREAT and ABORTING, and stop commands (R28, R118, R130, R131, R137, R142, R145, R146). -/

namespace Sys2Proof.Machine

section Abort

variable {s : State} {t : Transfer}

/-! ## Stop commands (R118, R137) -/

theorem stop_dryRun (hd : s.gantry.dryRun = true) (axes : List Axis) : s.stop axes = s.setMove .still :=
  if_pos hd

theorem mem_axesMoving (s : State) (a : Axis) :
    a ∈ s.axesMoving ↔ ∃ awaited, s.gantry.move = .awaiting awaited ∧ awaited.get a = true := by
  cases hm : s.gantry.move <;> simp [State.axesMoving, hm, AxisSet.mem_toList]

theorem AxisSet.ext_get {t u : AxisSet} (h : ∀ a, t.get a = u.get a) : t = u := by
  cases t
  cases u
  exact (AxisSet.mk.injEq ..).mpr ⟨h .x, h .y, h .z, h .c⟩

theorem AxisSet.get_empty (a : Axis) : AxisSet.empty.get a = false := by
  cases a <;> rfl

/-- The stopped axes are awaited no more; the others are. -/
theorem stop_live (hd : s.gantry.dryRun = false) {axes : List Axis} {left : AxisSet}
    (h : ∀ a, left.get a = true ↔ a ∉ axes ∧ ∃ awaited, s.gantry.move = .awaiting awaited ∧ awaited.get a = true) :
    s.stop axes = { s with gantry := { s.gantry with
      driveOut := s.gantry.driveOut ++ axes.map DriveCommand.stop
      move := if left = AxisSet.empty then .still else .awaiting left } } := by
  have mem (a : Axis) : a ∈ (s.axesMoving.filter fun a => !axes.contains a) ↔ left.get a = true := by
    rw [List.mem_filter, mem_axesMoving, h, and_comm]
    simp
  have left_eq : AxisSet.ofList (s.axesMoving.filter fun a => !axes.contains a) = left :=
    AxisSet.ext_get fun a => by rw [AxisSet.get_ofList, Bool.eq_iff_iff, decide_eq_true_iff, mem]
  have none_left : (s.axesMoving.filter fun a => !axes.contains a).isEmpty = true ↔ left = AxisSet.empty := by
    rw [List.isEmpty_iff, List.eq_nil_iff_forall_not_mem]
    simp only [mem]
    refine ⟨fun none => AxisSet.ext_get fun a => ?_, fun he a => ?_⟩
    · rw [AxisSet.get_empty, ← Bool.not_eq_true]
      exact none a
    · rw [he, AxisSet.get_empty]
      exact nofun
  rw [State.stop, if_neg (by simp [hd])]
  simp only [left_eq, none_left]
  rfl

/-- The X, Y and C moves in progress, in their order. -/
theorem sideMoves_awaiting {axes : AxisSet} (hm : s.gantry.move = .awaiting axes) : s.sideMoves =
    (if axes.x then [.x] else []) ++ (if axes.y then [.y] else []) ++ (if axes.c then [.c] else []) := by
  obtain ⟨x, y, z, c⟩ := axes
  rw [State.sideMoves, State.axesMoving, hm]
  cases x <;> cases y <;> cases z <;> cases c <;> rfl

theorem sideMoves_none (hm : ∀ axes, s.gantry.move ≠ .awaiting axes) : s.sideMoves = [] := by
  cases h : s.gantry.move with
  | awaiting axes => exact absurd h (hm axes)
  | still => simp [State.sideMoves, State.axesMoving, h]
  | modelled left ts => simp [State.sideMoves, State.axesMoving, h]

/-! ## Giving up before the grip (R28, R130, R131, R142) -/

theorem enterRetreat_eq (ht : s.transfer = some t) : s.enterRetreat = ({ (s.stop s.sideMoves) with
    valves := 0, gripCounter := .stopped, transfer := some { t with phase := .retreat, leg := .first } } : State).issue
      [goTo .z s.travel.ztravel] := by
  have record : (s.stop s.sideMoves).transfer = some t := (s.stop_sameWork _).2.1.trans ht
  exact congrArg (State.issue · [goTo .z s.travel.ztravel])
    (setPhase_eq (s := { s.stop s.sideMoves with valves := 0, gripCounter := .stopped }) record .retreat)

/-- HALTED changes the remembered phase alone, and closes the valves (R142). -/
theorem abandon_halted (ht : s.transfer = some t) (hg : s.gantry.state = .halted .cycling) : s.abandon = { s with
    valves := 0, gripCounter := .stopped, transfer := some { t with phase := .retreat, leg := .first } } := by
  simp only [State.abandon, hg, setPhase_eq ht]

theorem abandonFor_early {slot tag : Nat} (ht : s.transfer = some t) (hs : t.jobSlot = slot) (hj : t.jobTag = tag)
    (hp : t.phase = .toStack ∨ t.phase = .search ∨ t.phase = .grip) : s.abandonFor slot tag = s.abandon := by
  have record : s.transferFor slot tag = some t := transferFor_eq_some.2 ⟨ht, hj, hs⟩
  have early : t.phase.preGrip = true := (preGrip_iff _).2 (by simpa using hp)
  rw [State.abandonFor, record]
  exact if_pos early

theorem abandonFor_other {slot tag : Nat} (ht : s.transfer = some t)
    (h : t.jobSlot ≠ slot ∨ t.jobTag ≠ tag ∨ (t.phase ≠ .toStack ∧ t.phase ≠ .search ∧ t.phase ≠ .grip)) :
    s.abandonFor slot tag = s := by
  refine if_neg fun early => ?_
  obtain ⟨u, hu, hp⟩ := (Option.any_eq_true ..).1 early
  obtain ⟨hu, hj, hs⟩ := transferFor_eq_some.1 hu
  cases ht.symm.trans hu
  have phases : t.phase = .toStack ∨ t.phase = .search ∨ t.phase = .grip := by simpa using (preGrip_iff _).1 hp
  tauto

/-! ## ABORT (R145, R146) -/

/-- The gantry is ABORTING, the reject Z stands in the record, and Z rises while the side moves stop. -/
theorem enterAborting_eq (ht : s.transfer = some t) : s.enterAborting t =
    (({ s with
      transfer := some { t with
        rejectZ := some (s.travel.zr + (s.typeEntry t.key.type).thk), phase := .toReject, leg := .first }
      gantry := { s.gantry with state := .aborting } } : State).stop s.sideMoves).issue [goTo .z s.travel.ztravel] := by
  have record : (s.setGantry .aborting).transfer = some t := ht
  rw [State.enterAborting, onTransfer_eq record, setPhase_eq rfl, State.issueRejectRise, ← stop_onTransfer]
  rfl

theorem answerAbort_cycling (hg : s.gantry.state = .cycling) (ht : s.transfer = some t) (f : Frame) :
    answerAbort f s = s.abortTransfer t := by
  simp only [answerAbort, hg, ht]

theorem answerAbort_nothing (hg : s.gantry.state = .idle ∨ s.gantry.state = .unhomed ∨ s.gantry.state = .aborting)
    (f : Frame) : answerAbort f s = refuse .nothingToAbort s := by
  rcases hg with hg | hg | hg <;> simp only [answerAbort, hg]

theorem answerAbort_barred
    (hg : (∃ h, s.gantry.state = .homing h) ∨ (∃ r, s.gantry.state = .halted r) ∨ s.gantry.state = .fault) (f : Frame) :
    answerAbort f s = refuse .gantryState s := by
  rcases hg with ⟨h, hg⟩ | ⟨r, hg⟩ | hg <;> simp only [answerAbort, hg]

/-! ### The rows of a CYCLING transfer (R145) -/

theorem abortTransfer_early (hp : t.phase = .toStack ∨ t.phase = .search ∨ t.phase = .grip) :
    s.abortTransfer t = accept s.enterRetreat := by
  rcases hp with hp | hp | hp <;> rw [State.abortTransfer, hp]

theorem abortTransfer_carry (hp : t.phase = .lift ∨ t.phase = .toLane ∨ t.phase = .lower) :
    s.abortTransfer t = accept (s.enterAborting t) := by
  rcases hp with hp | hp | hp <;> rw [State.abortTransfer, hp]

theorem abortTransfer_late (hp : t.phase = .release ∨ t.phase = .rise) : s.abortTransfer t = defer s := by
  rcases hp with hp | hp <;> rw [State.abortTransfer, hp]

theorem abortTransfer_retreat (hp : t.phase = .retreat) : s.abortTransfer t = refuse .nothingToAbort s := by
  rw [State.abortTransfer, hp]

end Abort

/-- Settles O45: the rows of R145 by gantry state and phase; the entries as `enterRetreat_eq` and `enterAborting_eq` spell
them, a stop by the axes it leaves awaited. -/
theorem abortActsByItsTable : Obligations.AbortActsByItsTable := by
  unfold Obligations.AbortActsByItsTable
  refine ⟨fun b s h hb => ?_, fun s t ht => ?_,
    fun s axes => ⟨fun hd => stop_dryRun hd axes, fun left hd => stop_live hd⟩, fun s => ?_⟩
  · have hlen : b.payload.length = RequestKind.abort.payloadLength := congrArg List.length hb
    refine ⟨fun t hg ht => ?_, fun hg => ?_, fun hg => ?_⟩
    · have row {a : Answer} (ha : s.quiet.abortTransfer t = a) :
          answerOf .abort (frameOfRequest .abort b) 0 s.quiet = a :=
        (answerAbort_cycling (s := s.quiet) hg ht (frameOfRequest .abort b)).trans ha
      refine ⟨fun hp => ?_, fun hp => ?_, fun hp => ?_, fun hp => ?_⟩
      · exact exec_accepted h .abort b hlen (row (abortTransfer_early hp))
      · exact exec_accepted h .abort b hlen
          (row ((abortTransfer_carry hp).trans (congrArg accept (enterAborting_eq (s := s.quiet) ht))))
      · exact exec_deferred h .abort b hlen (row (abortTransfer_late hp))
      · exact exec_refused h .abort b hlen (row (abortTransfer_retreat hp))
    · exact exec_refused h .abort b hlen (answerAbort_nothing (s := s.quiet) hg (frameOfRequest .abort b))
    · exact exec_refused h .abort b hlen (answerAbort_barred (s := s.quiet) hg (frameOfRequest .abort b))
  · refine ⟨enterRetreat_eq ht, fun slot tag => ⟨fun hs hj hp => ?_, abandonFor_other ht⟩⟩
    rw [abandonFor_early ht hs hj hp]
    refine ⟨fun hg => ?_, abandon_halted ht, fun hg => ?_⟩ <;> simp only [State.abandon, hg]
  · cases hm : s.gantry.move with
    | awaiting axes => exact sideMoves_awaiting hm
    | still => exact sideMoves_none (by simp [hm])
    | modelled left ts => exact sideMoves_none (by simp [hm])

end Sys2Proof.Machine
end

section
/-! SET MODES: the values it stores and replies, and the entry into and leaving of dry run (R149, R150, R165, R179). -/

namespace Sys2Proof.Machine

/-! ## The values of a payload (R165, R179) -/

theorem modesOf_eq {p : List Byte} {r : Rounding} {dry : Bool} (hr : u8 p 0 = r.code)
    (hd : u8 p 4 = if dry then 1 else 0) :
    modesOf p = some
      { modes := { rounding := r, window := max 1 (min 16 (u8 p 1)), starve := min 600 (u16 p 2),
                   dryMove := max 50 (min 5000 (u16 p 5)), settle1 := max 50 (min 2000 (u16 p 7)),
                   settle2 := max 50 (min 2000 (u16 p 9)), settle3 := max 50 (min 2000 (u16 p 11)),
                   settle4 := max 50 (min 2000 (u16 p 13)), release := max 20 (min 500 (u16 p 15)),
                   contactTol := max 10 (min 200 (u16 p 17)), clampTol := min 50 (u16 p 19) },
        dryRun := dry } := by
  simp only [modesOf, roundingOf_eq_some.2 hr, boolOf_eq_some.2 hd, clampTo_eq (Nat.zero_le _), Nat.zero_max,
    clampTo_eq (show 1 ≤ 16 by decide), clampTo_eq (show 50 ≤ 5000 by decide), clampTo_eq (show 50 ≤ 2000 by decide),
    clampTo_eq (show 20 ≤ 500 by decide), clampTo_eq (show 10 ≤ 200 by decide)]

theorem modesOf_none {p : List Byte} (h : (∀ r : Rounding, u8 p 0 ≠ r.code) ∨ 1 < u8 p 4) : modesOf p = none := by
  unfold modesOf
  split
  · next hr hd =>
    rcases h with h | h
    · exact absurd (roundingOf_eq_some.1 hr) (h _)
    · exact absurd (flag_le_one (boolOf_eq_some.1 hd)) (Nat.not_le.2 h)
  · rfl

/-! ## Stored as sent (R165, R179) -/

/-- Every number fits its field of a payload. -/
structure Modes.Fits (m : Modes) : Prop where
  window : m.window < 256
  starve : m.starve < 65536
  dryMove : m.dryMove < 65536
  settle1 : m.settle1 < 65536
  settle2 : m.settle2 < 65536
  settle3 : m.settle3 < 65536
  settle4 : m.settle4 < 65536
  release : m.release < 65536
  contactTol : m.contactTol < 65536
  clampTol : m.clampTol < 65536

/-- The numbers of a payload as they were sent, none clamped. -/
def modesSent (r : Rounding) (p : List Byte) : Modes :=
  { rounding := r, window := u8 p 1, starve := u16 p 2, dryMove := u16 p 5, settle1 := u16 p 7, settle2 := u16 p 9,
    settle3 := u16 p 11, settle4 := u16 p 13, release := u16 p 15, contactTol := u16 p 17, clampTol := u16 p 19 }

theorem modesSent_fits (r : Rounding) (p : List Byte) : (modesSent r p).Fits where
  window := u8_lt p 1
  starve := u16_lt p 2
  dryMove := u16_lt p 5
  settle1 := u16_lt p 7
  settle2 := u16_lt p 9
  settle3 := u16_lt p 11
  settle4 := u16_lt p 13
  release := u16_lt p 15
  contactTol := u16_lt p 17
  clampTol := u16_lt p 19

theorem map_getD_range (p : List Byte) : (List.range p.length).map (p.getD · 0) = p :=
  List.ext_getElem (by simp) fun i _ h => by simp [List.getElem?_eq_getElem h]

/-- A payload of 21 bytes is the fields of the numbers it sends. -/
theorem modesSent_fields {p : List Byte} {r : Rounding} {dry : Bool} (hlen : p.length = 21) (hr : u8 p 0 = r.code)
    (hd : u8 p 4 = if dry then 1 else 0) : (modesSent r p).fields dry = p := by
  have bytes := map_getD_range p
  have flag : flagByte dry = p.getD 4 0 := by
    rw [← byteOf_u8, hd]
    cases dry <;> rfl
  have rounding : byteOf r.code = p.getD 0 0 := by rw [← byteOf_u8, hr]
  rw [hlen] at bytes
  simp only [Modes.fields, modesSent, le16_u16, byteOf_u8, flag, rounding]
  exact bytes

theorem le16_append_inj {m n : Nat} (hm : m < 65536) (hn : n < 65536) (q r : List Byte) :
    le16 m ++ q = le16 n ++ r ↔ m = n ∧ q = r := by
  constructor
  · intro h
    obtain ⟨head, tail⟩ := List.append_inj h rfl
    exact ⟨le16_inj hm hn head, tail⟩
  · rintro ⟨rfl, rfl⟩
    rfl

theorem le16_inj_iff {m n : Nat} (hm : m < 65536) (hn : n < 65536) : le16 m = le16 n ↔ m = n :=
  ⟨le16_inj hm hn, congrArg le16⟩

theorem byteOf_inj {m n : Nat} (hm : m < 256) (hn : n < 256) : byteOf m = byteOf n ↔ m = n := by
  refine ⟨fun h => ?_, congrArg byteOf⟩
  rw [← byteOf_toNat hm, h, byteOf_toNat hn]

/-- Modes of one rounding that fit their fields are told apart by them. -/
theorem Modes.fields_inj {m n : Modes} (hm : m.Fits) (hn : n.Fits) (hr : m.rounding = n.rounding) (dry : Bool) :
    m.fields dry = n.fields dry ↔ m.window = n.window ∧ m.starve = n.starve ∧ m.dryMove = n.dryMove ∧
      m.settle1 = n.settle1 ∧ m.settle2 = n.settle2 ∧ m.settle3 = n.settle3 ∧ m.settle4 = n.settle4 ∧
      m.release = n.release ∧ m.contactTol = n.contactTol ∧ m.clampTol = n.clampTol := by
  simp only [Modes.fields, List.append_assoc, List.cons_append, List.nil_append, List.cons.injEq, hr, true_and,
    byteOf_inj hm.window hn.window, le16_append_inj hm.starve hn.starve, le16_append_inj hm.dryMove hn.dryMove,
    le16_append_inj hm.settle1 hn.settle1, le16_append_inj hm.settle2 hn.settle2,
    le16_append_inj hm.settle3 hn.settle3, le16_append_inj hm.settle4 hn.settle4,
    le16_append_inj hm.release hn.release, le16_append_inj hm.contactTol hn.contactTol,
    le16_inj_iff hm.clampTol hn.clampTol]

/-- The stored bytes are the bytes sent exactly when no number was clamped. -/
theorem Modes.fields_eq_iff {m : Modes} {p : List Byte} {dry : Bool} (hm : m.Fits) (hlen : p.length = 21)
    (hr : u8 p 0 = m.rounding.code) (hd : u8 p 4 = if dry then 1 else 0) :
    m.fields dry = p ↔ m.window = u8 p 1 ∧ m.starve = u16 p 2 ∧ m.dryMove = u16 p 5 ∧ m.settle1 = u16 p 7 ∧
      m.settle2 = u16 p 9 ∧ m.settle3 = u16 p 11 ∧ m.settle4 = u16 p 13 ∧ m.release = u16 p 15 ∧
      m.contactTol = u16 p 17 ∧ m.clampTol = u16 p 19 := by
  have sent := Modes.fields_inj hm (modesSent_fits m.rounding p) rfl dry
  rwa [modesSent_fields hlen hr hd] at sent

/-! ## Dry run (R149, R150) -/

theorem mayChangeDryRun_iff (s : State) : s.mayChangeDryRun = true ↔
    (s.gantry.state = .unhomed ∨ s.gantry.state = .idle) ∧ s.holding = false ∧
      ∀ l, (s.lane l).state = .parked ∨ (s.lane l).state = .idle := by
  simp [State.mayChangeDryRun, and_assoc]

theorem setDryRun_same {s : State} {dry : Bool} (h : dry = s.gantry.dryRun) : s.setDryRun dry = s :=
  if_pos (beq_iff_eq.2 h)

/-- In dry run the modelled head is over the datum and the gantry IDLE, or HALTED out of IDLE behind the safety line;
outside it the gantry has to be homed. -/
theorem setDryRun_changes {s : State} {dry : Bool} (h : dry ≠ s.gantry.dryRun) : s.setDryRun dry = { s with
    gantry := if dry then
        { s.gantry with
          dryRun := true, head := some { x := 0, y := 0, z := s.travel.ztravel, c := 0 },
          state := if s.inputs.safety then .halted .idle else .idle,
          noteHalted := s.inputs.safety || s.gantry.noteHalted }
      else { s.gantry with dryRun := false, head := none, state := .unhomed } } := by
  rw [State.setDryRun, if_neg (by simpa using h)]
  cases dry with
  | false => rfl
  | true =>
    cases hs : s.inputs.safety <;> simp only [State.enterDryRun, hs] <;> rfl

/-! ## SET MODES -/

section Answer

variable {s : State} {f : Frame} {r : ModesRequest}

theorem answerSetModes_barred (hm : modesOf f.body.payload = some r) (hd : r.dryRun ≠ s.gantry.dryRun)
    (hc : ¬ s.mayChangeDryRun = true) : answerSetModes f s = refuse .gantryState s := by
  simp [answerSetModes, hm, hd, hc]

theorem answerSetModes_accepted (hm : modesOf f.body.payload = some r)
    (may : r.dryRun = s.gantry.dryRun ∨ s.mayChangeDryRun = true) : answerSetModes f s =
      { result := if r.modes.fields r.dryRun = f.body.payload then .ok else .okAdjusted,
        payload := r.modes.fields r.dryRun, state := { s with modes := r.modes }.setDryRun r.dryRun, wake := true,
        later := false } := by
  have free : (r.dryRun != s.gantry.dryRun && !s.mayChangeDryRun) = false := by
    rcases may with may | may <;> simp [may]
  simp only [answerSetModes, hm, free]
  rfl

end Answer

/-- Settles O53: the payload's values as `modesOf_eq` reads them, the reply by `Modes.fields_eq_iff`, and dry run entered
and left as `setDryRun_changes` spells. -/
theorem setModesClampsAndStores : Obligations.SetModesClampsAndStores := by
  unfold Obligations.SetModesClampsAndStores
  intro b s h hb
  refine ⟨fun hv => exec_refused h .setModes b hb ?_, fun r dry m reply hr hd hm hreply => ?_⟩
  · simp only [answerOf, answerSetModes, frameOfRequest, modesOf_none hv]
  have read : modesOf (frameOfRequest .setModes b).body.payload = some { modes := m, dryRun := dry } :=
    hm ▸ modesOf_eq hr hd
  have rounding : m.rounding = r := by rw [hm]
  have fits : m.Fits := by
    subst hm
    constructor <;> dsimp only <;> omega
  have unclamped := Modes.fields_eq_iff fits hb (rounding ▸ hr) hd
  have replied (v : State) :
      v.withReply 0x03 b (if m.fields dry = b.payload then .ok else .okAdjusted) (m.fields dry) = reply v := by
    rw [hreply, ← rounding]
    simp only [unclamped]
    rfl
  have carried : (if m.fields dry = b.payload then Result.ok else .okAdjusted).carries = true := by
    split <;> rfl
  have accepted {u : State} (hu : ({ s.quiet with modes := m } : State).setDryRun dry = u)
      (may : dry = s.gantry.dryRun ∨ s.quiet.mayChangeDryRun = true) :
      exec (.setModes b) s = .next (reply u).reevaluate := by
    rw [← hu, ← replied]
    exact exec_answered h .setModes b hb (answerSetModes_accepted (s := s.quiet) read may) rfl
      fun hn => absurd (carried.symm.trans hn) nofun
  refine ⟨fun hc barred => ?_, fun hc => accepted (setDryRun_same hc) (.inl hc),
    fun hc hg hh hl => accepted ?_ (.inr ?_)⟩
  · exact exec_refused h .setModes b hb
      (answerSetModes_barred (s := s.quiet) read hc (mt (mayChangeDryRun_iff s.quiet).1 barred))
  · exact setDryRun_changes hc
  · exact (mayChangeDryRun_iff s.quiet).2 ⟨hg, hh, hl⟩

end Sys2Proof.Machine
end

section
/-! Motion commands: what an issue of targets puts on the drive ports, and that no command moves a drive with the safety
line asserted or in dry run (R137). -/

namespace Sys2Proof.Machine

/-! ## Targets issued (R137) -/

/-- The last target of an axis after these, `old` when none is for it. -/
def lastTarget (a : Axis) (ts : List Target) (old : Nat) : Nat :=
  ((ts.filter fun t => t.axis = a).getLast?.map Target.pos).getD old

theorem lastTarget_cons (a : Axis) (t : Target) (ts : List Target) (old : Nat) :
    lastTarget a (t :: ts) old = lastTarget a ts (if t.axis = a then t.pos else old) := by
  unfold lastTarget
  by_cases h : t.axis = a
  · rw [List.filter_cons_of_pos (by simpa using h), List.getLast?_cons, if_pos h]
    cases (ts.filter fun t => t.axis = a).getLast? <;> rfl
  · rw [List.filter_cons_of_neg (by simpa using h), if_neg h]

theorem recordTargets_last (ts : List Target) (g : GantryCtl) : ts.foldl GantryCtl.recordTarget g =
    { g with
      lastX := lastTarget .x ts g.lastX, lastY := lastTarget .y ts g.lastY, lastZ := lastTarget .z ts g.lastZ } := by
  induction ts generalizing g with
  | nil => rfl
  | cons t ts ih =>
    rw [List.foldl_cons, ih, lastTarget_cons, lastTarget_cons, lastTarget_cons]
    cases ht : t.axis <;> simp [GantryCtl.recordTarget, ht]

/-- The axes awaited after an issue are those with a target. -/
theorem awaited_of_targets (ts : List Target) : AxisSet.ofList (ts.map Target.axis) =
    { x := ts.any fun t => t.axis = .x, y := ts.any fun t => t.axis = .y,
      z := ts.any fun t => t.axis = .z, c := ts.any fun t => t.axis = .c } := by
  have awaited (a : Axis) : decide (a ∈ ts.map Target.axis) = ts.any fun t => t.axis = a := by
    rw [Bool.eq_iff_iff]
    simp
  simp only [AxisSet.ofList, awaited]

theorem issue_barred {s : State} (hd : s.gantry.dryRun = false) (h : s.inputs.safety = true ∨ s.gantry.state = .unhomed ∨
    s.gantry.state = .idle ∨ s.gantry.state = .fault ∨ ∃ r, s.gantry.state = .halted r) (ts : List Target) :
    s.issue ts = s := by
  have barred : s.motionAllowed = false := by
    rcases h with h | h | h | h | ⟨r, h⟩ <;> simp [State.motionAllowed, Gantry.moves, h]
  rw [State.issue, if_neg (by simp [hd]), if_neg (by simp [barred])]

theorem motionAllowed_of_state {s : State} (hd : s.gantry.dryRun = false) (hs : s.inputs.safety = false)
    (h : (∃ step, s.gantry.state = .homing step) ∨ s.gantry.state = .cycling ∨ s.gantry.state = .aborting) :
    s.motionAllowed = true := by
  rcases h with ⟨step, h⟩ | h | h <;> simp [State.motionAllowed, Gantry.moves, hd, hs, h]

/-! ## What the ports carry -/

/-- With these levels the ports carry a motion command only when the safety line is clear and dry run off. -/
structure PortsSafe (safety dryRun : Bool) (out : List DriveCommand) : Prop where
  motion : ∀ d ∈ out, d.isMotion = true → safety = false ∧ dryRun = false

/-- The drive ports of the part are safe under its own levels. Nothing else of the state is read, so a change of anything else
keeps this by definition: the hypothesis itself is then the proof. -/
def State.SafelyDriven (s : State) : Prop :=
  PortsSafe s.inputs.safety s.gantry.dryRun s.gantry.driveOut

namespace State.SafelyDriven

variable {s t : State}

/-- A part with no command on its ports moves nothing, whatever its levels. -/
theorem of_silent (h : s.gantry.driveOut = []) : s.SafelyDriven :=
  ⟨fun _ hd => absurd hd (h ▸ List.not_mem_nil)⟩

theorem of_same {u : State} (h : s.SafelyDriven) (safety : u.inputs.safety = s.inputs.safety)
    (dryRun : u.gantry.dryRun = s.gantry.dryRun) (out : u.gantry.driveOut = s.gantry.driveOut) : u.SafelyDriven := by
  unfold State.SafelyDriven
  rw [safety, dryRun, out]
  exact h

theorem driven {g : GantryCtl} (k : Driven s g) (h : s.SafelyDriven) : ({ s with gantry := g } : State).SafelyDriven where
  motion d hd hm := by
    rcases k.motion d hd hm with old | ⟨clear, live⟩
    · exact ⟨(h.motion d old hm).1, k.dryRun.trans (h.motion d old hm).2⟩
    · exact ⟨clear, k.dryRun.trans live⟩

/-! ### Drive ports, jobs and lanes -/

theorem issue {ts : List Target} (h : s.SafelyDriven) : (s.issue ts).SafelyDriven := by
  obtain ⟨g, hg, k⟩ := issue_frame s ts
  rw [hg]
  exact h.driven k

theorem issueHome {axes : List Axis} (h : s.SafelyDriven) : (s.issueHome axes).SafelyDriven := by
  obtain ⟨g, hg, k⟩ := issueHome_frame s axes
  rw [hg]
  exact h.driven k

theorem stop {axes : List Axis} (h : s.SafelyDriven) : (s.stop axes).SafelyDriven := by
  obtain ⟨g, hg, k⟩ := stop_frame s axes
  rw [hg]
  exact h.driven k

theorem stopAll (h : s.SafelyDriven) : s.stopAll.SafelyDriven :=
  h.stop (axes := allAxes)

theorem modifyJob (slot : Nat) (f : Job → Job) (h : s.SafelyDriven) : (s.modifyJob slot f).SafelyDriven := by
  rw [modifyJob_frame]
  exact h

theorem onRecordJob (f : Job → Job) (h : s.SafelyDriven) : (s.onRecordJob f).SafelyDriven := by
  rw [onRecordJob_frame]
  exact h

theorem finishJob (slot : Nat) (st : JobState) (r : Option Reason) (h : s.SafelyDriven) :
    (s.finishJob slot st r).SafelyDriven := by
  rw [finishJob_frame]
  exact h

theorem closeBook (l : LaneNo) (h : s.SafelyDriven) : (s.closeBook l).SafelyDriven := by
  obtain ⟨v, q, hv⟩ := closeBook_frame s l
  rw [hv]
  exact h

theorem closeTest (l : LaneNo) (h : s.SafelyDriven) : (s.closeTest l).SafelyDriven := by
  obtain ⟨v, q, hv⟩ := closeTest_frame s l
  rw [hv]
  exact h

/-! ### The halt and faults -/

theorem halt (h : s.SafelyDriven) : s.halt.SafelyDriven := by
  unfold State.halt
  split
  · exact h
  · exact h.stopAll.of_same rfl rfl rfl

theorem boardLost (h : s.SafelyDriven) : s.boardLost.SafelyDriven :=
  (h.onRecordJob Job.lose).of_same rfl rfl rfl

theorem takeFault (k : FaultKind) (h : s.SafelyDriven) : (s.takeFault k).SafelyDriven := by
  have lost {u : State} (hu : u.SafelyDriven) : (if k = .drop then u.boardLost else u).SafelyDriven := by
    split
    · exact hu.boardLost
    · exact hu
  refine lost ?_
  split
  · exact h.stopAll.of_same rfl rfl rfl
  · exact h
  · exact (h.stop (axes := allAxes)).of_same rfl rfl rfl

theorem inputFault (k : FaultKind) (h : s.SafelyDriven) : (s.inputFault k).SafelyDriven := by
  unfold State.inputFault
  split
  · exact h.takeFault k
  · exact h

theorem holdLost (h : s.SafelyDriven) : s.holdLost.SafelyDriven := by
  unfold State.holdLost
  split
  · exact h.takeFault .drop
  · exact h

theorem faultsFound (h : s.SafelyDriven) : s.faultsFound.SafelyDriven :=
  List.foldlRecOn _ _ h fun _ hu k _ => hu.inputFault k

/-! ### The phases of a transfer -/

theorem startGrip (h : s.SafelyDriven) : s.startGrip.SafelyDriven := by
  unfold State.startGrip
  split <;> exact h

theorem enterRetreat (h : s.SafelyDriven) : s.enterRetreat.SafelyDriven :=
  issue (stop h)

theorem abandonFor (slot tag : Nat) (h : s.SafelyDriven) : (s.abandonFor slot tag).SafelyDriven := by
  unfold State.abandonFor State.abandon
  repeat' split
  case h_1 => exact h.enterRetreat
  all_goals exact h

theorem contactEvent (z : Nat) (h : s.SafelyDriven) : (s.contactEvent z).SafelyDriven := by
  unfold State.contactEvent
  split
  · exact h
  · next t _ =>
    have stopped : ((s.onTransfer fun t => { t with zc := some z }).stop [.z]).SafelyDriven := stop h
    dsimp only
    split
    · exact startGrip stopped
    · exact enterRetreat stopped

theorem issueSearch (z : Nat) (h : s.SafelyDriven) : (s.issueSearch z).SafelyDriven := by
  unfold State.issueSearch
  dsimp only
  repeat' split
  · exact h
  · exact contactEvent z (issue h)
  · exact issue h

theorem contactRises (z : Nat) (h : s.SafelyDriven) : (s.contactRises z).SafelyDriven := by
  unfold State.contactRises
  split
  · exact h.contactEvent z
  · exact h

theorem endDescent (t : Transfer) (h : s.SafelyDriven) : (s.endDescent t).SafelyDriven := by
  unfold State.endDescent
  repeat' split
  · exact contactEvent _ h
  · exact h.contactEvent _
  · exact enterRetreat h

theorem enterLift (h : s.SafelyDriven) : s.enterLift.SafelyDriven := by
  unfold State.enterLift
  dsimp only
  split
  · exact holdLost (issue h)
  · exact issue h

theorem gripSettles (level : Bool) (h : s.SafelyDriven) : (s.gripSettles level).SafelyDriven := by
  have expiry (t : Transfer) : (s.gripExpiry t level).SafelyDriven := by
    unfold State.gripExpiry
    repeat' split
    · exact enterLift (onRecordJob Job.gripped h)
    · exact startGrip h
    · exact enterRetreat h
  unfold State.gripSettles
  repeat' split
  · exact expiry _
  all_goals exact h

theorem releaseExpiry (t : Transfer) (h : s.SafelyDriven) : (s.releaseExpiry t).SafelyDriven := by
  have placed {u : State} (hu : u.SafelyDriven) : (u.place t).SafelyDriven := by
    obtain ⟨v, q, o, hv⟩ := place_frame u t
    rw [hv]
    exact hu
  have counted : (({ s with blowOff := false, releaseCounter := .stopped } : State).countPlaced t).SafelyDriven := by
    obtain ⟨store, notices, hs, -⟩ := countPlaced_frame { s with blowOff := false, releaseCounter := .stopped } t
    rw [hs]
    exact h
  exact issue (placed counted)

theorem releaseSettles (h : s.SafelyDriven) : s.releaseSettles.SafelyDriven := by
  unfold State.releaseSettles
  repeat' split
  · exact h.releaseExpiry _
  · exact h
  · exact issue (onRecordJob Job.reject h)
  all_goals exact h

/-! ### The end of a transfer and selection -/

theorem closeRecord (t : Transfer) (h : s.SafelyDriven) : (s.closeRecord t).SafelyDriven := by
  have resolved : (s.resolveCancel t).SafelyDriven := by
    unfold State.resolveCancel
    repeat' split
    case h_2.isTrue => exact h.finishJob ..
    all_goals exact h
  exact resolved.closeTest t.lane

theorem select (x : Hit) (h : s.SafelyDriven) : (s.select x).SafelyDriven :=
  faultsFound (issue h)

theorem attempts (fuel : Nat) (h : s.SafelyDriven) : (State.attempts fuel s).SafelyDriven := by
  induction fuel generalizing s with
  | zero => exact h
  | succ fuel ih =>
    have scanned : s.scan.state.SafelyDriven := by
      obtain ⟨store, notices, hu, -⟩ := (scan_sound s).cell
      rw [hu]
      exact h
    simp only [State.attempts]
    repeat' split
    · exact scanned.select _
    · exact ih scanned
    · exact scanned

theorem reevaluate (h : s.SafelyDriven) : s.reevaluate.SafelyDriven := by
  unfold State.reevaluate
  split
  · exact h.attempts _
  · exact h

/-! ### The completion of a move -/

theorem ended (t : Transfer) (h : s.SafelyDriven) : (s.endTransfer t).reevaluate.SafelyDriven :=
  reevaluate (closeRecord t h)

theorem completePhase (t : Transfer) (h : s.SafelyDriven) : (s.completePhase t).SafelyDriven := by
  unfold State.completePhase
  split
  case h_1 => exact issueSearch _ h
  case h_2 | h_4 | h_5 => exact issue h
  case h_3 => exact h.endDescent t
  case h_7 | h_8 => exact h.ended t
  all_goals exact h

theorem completePutDown (t : Transfer) (h : s.SafelyDriven) : (s.completePutDown t).SafelyDriven := by
  unfold State.completePutDown
  split
  case h_1 | h_2 => exact issue h
  case h_4 => exact h.ended t
  all_goals exact h

theorem completeMove (h : s.SafelyDriven) : s.completeMove.SafelyDriven := by
  unfold State.completeMove
  dsimp only
  split
  case h_1 => exact issueHome h
  case h_2 => exact issue h
  case h_3 => exact reevaluate h
  case h_4 => exact completePhase _ h
  case h_5 => exact completePutDown _ h
  all_goals exact h

theorem axisReported (a : Axis) (h : s.SafelyDriven) : (s.axisReported a).SafelyDriven := by
  unfold State.axisReported
  repeat' split
  · exact h.completeMove
  all_goals exact h

/-! ### The answers of the blocks -/

theorem resumeWork (r : Remembered) (z : Nat) (h : s.SafelyDriven) : (s.resumeWork r z).SafelyDriven := by
  have phase {u : State} (t : Transfer) (hu : u.SafelyDriven) : (u.resumePhase t z).SafelyDriven := by
    unfold State.resumePhase
    split
    case h_2 => exact hu.issueSearch z
    case h_3 => exact hu.startGrip
    case h_7 | h_12 => exact hu
    case h_10 => exact issue (stop hu)
    all_goals exact issue hu
  have record {u : State} (hu : u.SafelyDriven) : (u.resumeRecord z).SafelyDriven := by
    unfold State.resumeRecord
    split
    · exact hu
    · exact phase _ hu
  cases r with
  | homing => exact issueHome h
  | idle => exact h
  | cycling | aborting => exact record h

theorem answerParkLane (f : Frame) (h : s.SafelyDriven) : (answerParkLane f s).state.SafelyDriven := by
  unfold Machine.answerParkLane State.parkLane
  dsimp only
  repeat' split
  case h_3.isFalse.isFalse => exact closeBook _ h
  all_goals exact h

theorem answerCloseBook (f : Frame) (h : s.SafelyDriven) : (answerCloseBook f s).state.SafelyDriven := by
  unfold Machine.answerCloseBook State.requestClose
  repeat' split
  case h_1.isFalse => exact closeBook _ h
  all_goals exact h

theorem answerAmendJob (f : Frame) (h : s.SafelyDriven) : (answerAmendJob f s).state.SafelyDriven := by
  have amended (e : Located) (a : Amendment) : (s.amended e a).SafelyDriven := by
    unfold State.amended
    dsimp only
    split
    · exact ((h.modifyJob ..).abandonFor ..).finishJob ..
    · exact h.modifyJob ..
  unfold Machine.answerAmendJob
  repeat' split
  case h_2.isFalse.isFalse.isFalse.isFalse => exact amended _ _
  all_goals exact h

theorem answerCancelJob (f : Frame) (h : s.SafelyDriven) : (answerCancelJob f s).state.SafelyDriven := by
  unfold Machine.answerCancelJob
  repeat' split
  case h_2.isFalse.isFalse.isTrue => exact h.modifyJob ..
  case h_2.isFalse.isFalse.isFalse => exact (h.abandonFor ..).finishJob ..
  all_goals exact h

theorem answerHome (f : Frame) (h : s.SafelyDriven) : (answerHome f s).state.SafelyDriven := by
  unfold Machine.answerHome
  repeat' split
  case isTrue.isFalse => exact faultsFound (issueHome h)
  all_goals exact h

theorem answerResume (f : Frame) (z : Nat) (h : s.SafelyDriven) : (answerResume f z s).state.SafelyDriven := by
  unfold Machine.answerResume
  repeat' split
  · exact h
  · exact h
  · exact h.resumeWork _ z

theorem answerAbort (f : Frame) (h : s.SafelyDriven) : (answerAbort f s).state.SafelyDriven := by
  have transfer (t : Transfer) : (s.abortTransfer t).state.SafelyDriven := by
    unfold State.abortTransfer
    split
    case h_1 | h_2 | h_3 => exact h.enterRetreat
    case h_4 | h_5 | h_6 => exact issue (stop h)
    all_goals exact h
  unfold Machine.answerAbort
  split
  case h_1 =>
    split
    · exact transfer _
    · exact h
  all_goals exact h

theorem answerReleaseHeld (f : Frame) (h : s.SafelyDriven) : (answerReleaseHeld f s).state.SafelyDriven := by
  unfold Machine.answerReleaseHeld
  repeat' split
  case h_1.isTrue => exact h.boardLost
  case h_2.isTrue => exact h.boardLost.of_same rfl rfl rfl
  all_goals exact h

theorem answerClearFault (f : Frame) (h : s.SafelyDriven) : (answerClearFault f s).state.SafelyDriven := by
  have settled : s.settleInFlight.SafelyDriven := by
    unfold State.settleInFlight
    repeat' split
    case h_2.isTrue => exact h.onRecordJob Job.lose
    all_goals exact h
  have record : s.settleRecord.SafelyDriven := by
    unfold State.settleRecord
    split
    · exact h
    · exact settled.closeRecord _
  unfold Machine.answerClearFault
  repeat' split
  case isFalse.isFalse.isFalse => exact record.of_same rfl rfl rfl
  all_goals exact h

/-- Dry run is entered and left with no command on the ports: no other answer changes what makes them safe. -/
theorem answerSetModes (f : Frame) (silent : s.gantry.driveOut = []) : (answerSetModes f s).state.SafelyDriven := by
  unfold Machine.answerSetModes State.setDryRun State.enterDryRun
  dsimp only
  repeat' split
  all_goals exact of_silent silent

theorem answerOf (k : RequestKind) (f : Frame) (z : Nat) (silent : s.gantry.driveOut = []) :
    (answerOf k f z s).state.SafelyDriven := by
  have h : s.SafelyDriven := of_silent silent
  cases k
  case setModes => exact answerSetModes f silent
  case amendJob => exact h.answerAmendJob f
  case cancelJob => exact h.answerCancelJob f
  case home => exact h.answerHome f
  case halt => exact h.halt
  case resume => exact h.answerResume f z
  case abort => exact h.answerAbort f
  case clearFault => exact h.answerClearFault f
  case releaseHeld => exact h.answerReleaseHeld f
  case queryStatus | readFault | readConfig | readTypes | listJobs | readStacks | run | hold => exact h
  case parkLane => exact h.answerParkLane f
  case closeBook => exact h.answerCloseBook f
  case partitionStore | defineType | dropType | setTypeCursor | enqueueJob | readJob | setListCursor | setStack |
      loadStack | unloadStack | setLane | unparkLane | readLane | setTravel | restart =>
    simp only [Machine.answerOf, answerPartitionStore, answerDefineType, answerDropType, answerSetTypeCursor,
      answerEnqueueJob, answerReadJob, answerSetListCursor, answerSetStack, answerLoadStack, answerUnloadStack,
      answerSetLane, answerUnparkLane, State.unparkLane, answerReadLane, answerSetTravel, State.travelChanged,
      answerRestart, State.restarted, State.discardRecord]
    repeat' split
    all_goals exact h

/-! ### The decoder, the receiver and the clearing -/

theorem placeReply (f : Frame) (r : Result) (p : List Byte) (h : s.SafelyDriven) : (s.placeReply f r p).SafelyDriven := by
  unfold State.placeReply
  dsimp only
  split <;> exact h

theorem examine (f : Frame) (z : Nat) (silent : s.gantry.driveOut = []) : (s.examine f z).SafelyDriven := by
  have h : s.SafelyDriven := of_silent silent
  have deliver {a : Answer} (ha : a.state.SafelyDriven) : (a.deliver f).SafelyDriven := by
    unfold Answer.deliver
    dsimp only
    repeat' split
    · exact ha
    · exact (ha.placeReply ..).reevaluate
    · exact ha.placeReply ..
  unfold State.examine
  repeat' split
  · exact h.placeReply ..
  · exact h.placeReply ..
  · exact h.placeReply ..
  · exact deliver (answerOf _ f z silent)

theorem takeHeld (z : Nat) (silent : s.gantry.driveOut = []) : (s.takeHeld z).SafelyDriven := by
  unfold State.takeHeld
  split
  · exact examine _ z silent
  · exact of_silent silent

theorem frameComplete (f : Frame) (z : Nat) (silent : s.gantry.driveOut = []) : (s.frameComplete f z).SafelyDriven := by
  unfold State.frameComplete
  split
  · exact of_silent silent
  · exact takeHeld z silent

theorem requestArrives (f : Frame) (z : Nat) (silent : s.gantry.driveOut = []) : (s.requestArrives f z).SafelyDriven := by
  unfold State.requestArrives
  split
  · exact of_silent silent
  · exact frameComplete f z silent

theorem takeCharacter (v : Byte) (ok : Bool) (z : Nat) (silent : s.gantry.driveOut = []) :
    (s.takeCharacter v ok z).SafelyDriven := by
  unfold State.takeCharacter State.assemble
  repeat' split
  case h_2.isTrue.isFalse.isTrue.isTrue => exact frameComplete _ z silent
  all_goals exact of_silent silent

theorem gapExpires (h : s.SafelyDriven) : s.gapExpires.SafelyDriven := by
  unfold State.gapExpires
  split <;> exact h

theorem clearingEnds (h : s.SafelyDriven) : s.clearingEnds.SafelyDriven := by
  have reply {u : State} (f : Frame) (p : List Byte) (hu : u.SafelyDriven) : (u.clearingReply f p).SafelyDriven := by
    unfold State.clearingReply
    split
    · exact placeReply _ _ _ hu
    · exact hu
  unfold State.clearingEnds
  split
  case h_2 | h_3 => exact reply _ _ h
  all_goals exact h

theorem placeWaiting (h : s.SafelyDriven) : s.placeWaiting.SafelyDriven := by
  unfold State.placeWaiting
  split
  · exact placeReply _ _ _ h
  · exact h

theorem startFrame (z : Nat) (silent : s.gantry.driveOut = []) : (s.startFrame z).SafelyDriven := by
  unfold State.startFrame State.sendNext
  split
  · split
    · exact takeHeld z silent
    · repeat' split
      all_goals exact of_silent silent
  · exact of_silent silent

/-! ### The cell's events -/

theorem inPosition (a : Axis) (stale : Bool) (h : s.SafelyDriven) : (s.inPosition a stale).SafelyDriven := by
  unfold State.inPosition
  split
  · exact h
  · exact h.axisReported a

theorem homedReport (a : Axis) (stale : Bool) (h : s.SafelyDriven) : (s.homedReport a stale).SafelyDriven := by
  unfold State.homedReport
  split
  · exact h
  · exact h.axisReported a

theorem dryMoveEnds (h : s.SafelyDriven) : s.dryMoveEnds.SafelyDriven := by
  unfold State.dryMoveEnds
  split
  · exact completeMove h
  all_goals exact h

theorem sawRises (h : s.SafelyDriven) : s.sawRises.SafelyDriven := by
  unfold State.sawRises
  split
  · exact h
  · exact h.reevaluate

theorem takeOverEvent (l : LaneNo) (h : s.SafelyDriven) : (s.takeOverEvent l).SafelyDriven := by
  have taken : (s.takeOver l).1.SafelyDriven := by
    obtain ⟨v, q, hv⟩ := takeOver_frame s l
    rw [hv]
    exact h
  unfold State.takeOverEvent
  split
  · exact taken.reevaluate
  · exact taken

theorem taken (l : LaneNo) (h : s.SafelyDriven) : (s.taken l).SafelyDriven := by
  unfold State.taken
  repeat' split
  · exact h.takeOverEvent l
  all_goals exact h

theorem laneTimerExpires (l : LaneNo) (h : s.SafelyDriven) : (s.laneTimerExpires l).SafelyDriven := by
  unfold State.laneTimerExpires
  repeat' split
  · exact h
  · exact h.takeOverEvent l
  · exact h

theorem bookWaitExpires (l : LaneNo) (h : s.SafelyDriven) : (s.bookWaitExpires l).SafelyDriven := by
  unfold State.bookWaitExpires
  split
  · exact h.closeBook l
  · exact h

theorem crosses (l : LaneNo) (h : s.SafelyDriven) : (s.crosses l).SafelyDriven := by
  unfold State.crosses
  split
  · exact reevaluate h
  · exact h

/-! ### Every command -/

/-- A command is taken with no command on the ports (log 16). -/
theorem take_silent {f : State → State} (hf : ∀ u : State, u.gantry.driveOut = [] → (f u).SafelyDriven)
    (e : s.take f = .next t) : t.SafelyDriven := by
  unfold State.take at e
  cases e
  split
  · exact of_silent rfl
  · exact hf _ rfl

/-- A line's level is set with no command on the ports. -/
theorem onLine {i : Inputs} {f : State → State} (hf : ∀ u : State, u.SafelyDriven → (f u).SafelyDriven)
    (e : s.onLine i f = .next t) : t.SafelyDriven := by
  unfold State.onLine at e
  cases e
  split
  · exact of_silent rfl
  · exact hf _ (of_silent rfl)

/-- An effect made on an asserted level only. -/
theorem ifLevel {f : State → State} (level : Bool) (hf : ∀ u : State, u.SafelyDriven → (f u).SafelyDriven) (u : State)
    (hu : u.SafelyDriven) : (if level then f u else u).SafelyDriven := by
  split
  · exact hf u hu
  · exact hu

/-- An effect that keeps the ports safe, from silent ports on. -/
theorem take {f : State → State} (hf : ∀ u : State, u.SafelyDriven → (f u).SafelyDriven) (e : s.take f = .next t) :
    t.SafelyDriven :=
  take_silent (fun u silent => hf u (of_silent silent)) e

theorem exec (c : Instr) (e : exec c s = .next t) : t.SafelyDriven := by
  cases c
  case powerOnReset | resetPinAsserted | hostReadyAsserted => cases e; exact of_silent rfl
  case characterReceived v ok z =>
    exact take_silent (f := fun u => u.takeCharacter v ok z) (fun _ silent => takeCharacter v ok z silent) e
  case frameStart z => exact take_silent (f := fun u => u.startFrame z) (fun _ silent => startFrame z silent) e
  case gapTimerExpiry => exact take (f := State.gapExpires) (fun _ h => h.gapExpires) e
  case lineBreak => exact take (f := fun u => u.dropFrame .break) (fun _ h => h) e
  case storeClearingEnd => exact take (f := State.clearingEnds) (fun _ h => h.clearingEnds) e
  case waitingReplyPlaced => exact take (f := State.placeWaiting) (fun _ h => h.placeWaiting) e
  case frameSent => exact take (f := State.endFrame) (fun _ h => h) e
  case starveCrossing l => exact take (f := fun u => u.crosses l) (fun _ h => h.crosses l) e
  case dryMoveElapsed => exact take (f := State.dryMoveEnds) (fun _ h => h.dryMoveEnds) e
  case homedReport a stale => exact take (f := fun u => u.homedReport a stale) (fun _ h => h.homedReport a stale) e
  case gripSettleExpiry level => exact take (f := fun u => u.gripSettles level) (fun _ h => h.gripSettles level) e
  case releaseSettleExpiry => exact take (f := State.releaseSettles) (fun _ h => h.releaseSettles) e
  case takenPulse l => exact take (f := fun u => u.taken l) (fun _ h => h.taken l) e
  case laneTimerExpiry l => exact take (f := fun u => u.laneTimerExpires l) (fun _ h => h.laneTimerExpires l) e
  case bookWaitExpiry l => exact take (f := fun u => u.bookWaitExpires l) (fun _ h => h.bookWaitExpires l) e
  case safetyLineAsserted => exact onLine (f := State.halt) (fun _ h => h.halt) e
  case safetyLineReleased | sawReadyFall => exact onLine (f := id) (fun _ h => h) e
  case inPositionReport a stale z =>
    exact onLine (f := fun u => u.inPosition a stale) (fun _ h => h.inPosition a stale) e
  case contactAsserted level z =>
    exact onLine (f := fun u => if level then u.contactRises z else u) (ifLevel level fun _ h => h.contactRises z) e
  case dropFault level =>
    exact onLine (f := fun u => if level then u.holdLost else u) (ifLevel level fun _ h => h.holdLost) e
  case driveFaultAsserted a level =>
    exact onLine (f := fun u => if level then u.inputFault (driveFaultKind a) else u)
      (ifLevel level fun _ h => h.inputFault _) e
  case limitAsserted level =>
    exact onLine (f := fun u => if level then u.inputFault .limit else u) (ifLevel level fun _ h => h.inputFault _) e
  case sawReadyRise => exact onLine (f := State.sawRises) (fun _ h => h.sawRises) e
  case resume b z =>
    exact take_silent (f := fun u => u.requestArrives (frameOfRequest .resume b) z)
      (fun _ silent => requestArrives _ z silent) e
  all_goals
    exact take_silent (f := fun u => u.requestArrives { kind := _, body := _ } u.inputs.zReport)
      (fun _ silent => requestArrives _ _ silent) e

end State.SafelyDriven

/-- Settles O55: an issue as `issue_barred`, `issue_allowed` and `issue_dryRun` give it, its last targets by
`recordTargets_last`; every command starts from silent ports and keeps them safe. -/
theorem motionWaitsForTheSafetyLine : Obligations.MotionWaitsForTheSafetyLine := by
  unfold Obligations.MotionWaitsForTheSafetyLine
  refine ⟨fun s ts lastX lastY lastZ hx hy hz => ⟨fun hd barred => issue_barred hd barred ts, fun hd hs hg => ?_,
    fun hd => ?_⟩, fun c s t e => (State.SafelyDriven.exec c e).motion⟩
  · subst hx hy hz
    rw [issue_allowed (motionAllowed_of_state hd hs hg), State.recordTargets, recordTargets_last, awaited_of_targets]
    rfl
  · subst hx hy hz
    rw [issue_dryRun hd, State.recordTargets, recordTargets_last]
    rfl

end Sys2Proof.Machine
end

section
/-! Settings and counts in their ranges, the fault entry with FAULT, and a frame held only behind a reply, through every step
(R154, R157, R168, R170, R171, R178 to R180). -/

namespace Sys2Proof.Machine

/-! ## What the three invariants read -/

/-- The state with all that the three invariants do not read at its power-on value. -/
def State.gist (s : State) : State :=
  { State.reset with
    modes := s.modes
    travel := s.travel
    notices := { fifo := s.notices.fifo, lost := false }
    fault := { FaultRecord.powerOn with entry := s.fault.entry, reportCount := s.fault.reportCount }
    gantry := { GantryCtl.powerOn with state := s.gantry.state }
    link := { Link.powerOn 0 with held := s.link.held, slot := s.link.slot }
    waiting := s.waiting
    decoder := s.decoder }

/-- From one state to another each of the three invariants is kept. -/
structure Inherits (s u : State) : Prop where
  ranges : s.InRanges → u.InRanges
  fault : s.FaultExact → u.FaultExact
  link : s.LinkExact → u.LinkExact

/-- The three invariants are kept from one state to another. Only the gists are read, so a change of anything else keeps this by
definition: the hypothesis itself is then the proof. -/
def State.Leads (s u : State) : Prop :=
  Inherits s.gist u.gist

theorem inRanges_gist (s : State) : s.gist.InRanges ↔ s.InRanges :=
  ⟨fun ⟨modes, travel, fifo, further, report⟩ => ⟨modes, travel, fifo, further, report⟩,
    fun ⟨modes, travel, fifo, further, report⟩ => ⟨modes, travel, fifo, further, report⟩⟩

theorem linkExact_gist (s : State) : s.gist.LinkExact ↔ s.LinkExact :=
  ⟨fun ⟨held, waiting⟩ => ⟨held, waiting⟩, fun ⟨held, waiting⟩ => ⟨held, waiting⟩⟩

theorem leads_iff (s u : State) : s.Leads u ↔ Inherits s u := by
  constructor
  · rintro ⟨ranges, fault, link⟩
    exact ⟨by simpa only [inRanges_gist] using ranges, fault, by simpa only [linkExact_gist] using link⟩
  · rintro ⟨ranges, fault, link⟩
    exact ⟨by simpa only [inRanges_gist] using ranges, fault, by simpa only [linkExact_gist] using link⟩

/-! ## The settings (R179, R180) -/

theorem modes_powerOn_inRange : Modes.powerOn.InRange := by
  constructor <;> exact ⟨by decide, by decide⟩

theorem travel_powerOn_inRange : Travel.powerOn.InRange := by
  constructor <;> simp [Travel.powerOn, Between]

theorem between_clampTo {lo hi : Nat} (h : lo ≤ hi) (v : Nat) : Between lo hi (clampTo lo hi v) := by
  rw [clampTo_eq h]
  exact ⟨Nat.le_max_left .., Nat.max_le.2 ⟨h, Nat.min_le_left ..⟩⟩

theorem modesOf_inRange {p : List Byte} {r : ModesRequest} (h : modesOf p = some r) : r.modes.InRange := by
  unfold modesOf at h
  split at h
  · cases h
    constructor <;> exact between_clampTo (by decide) _
  · cases h

/-- What the checks 2, 3 and 6 of R180 pass is in its ranges. -/
theorem travel_inRange {t : Travel} (ranges : t.rangesOk = true) (points : t.pointsOk = true)
    (clearance : ¬ t.ztravel < t.zr + 1000) : t.InRange := by
  simp only [Travel.rangesOk, Bool.and_eq_true, decide_eq_true_eq] at ranges
  simp only [Travel.pointsOk, Bool.and_eq_true, within_iff] at points
  obtain ⟨⟨x, y⟩, z⟩ := ranges
  obtain ⟨⟨⟨travel, xr⟩, yr⟩, zr⟩ := points
  exact ⟨x, y, z, travel, ⟨xr, yr, zr⟩, by omega⟩

/-! ## The gantry outside FAULT, and the fault count (R154, R157) -/

theorem not_fault_of_haltMemory {g : Gantry} {r : Remembered} (h : g.haltMemory = some r) : g ≠ .fault := by
  rintro rfl
  cases h

theorem not_fault_of_remembered {g : Gantry} {r : Remembered} (h : g.remembered = some r) : g ≠ .fault := by
  rintro rfl
  cases h

theorem bump15_le (n : Nat) : bump15 n ≤ 15 :=
  Nat.min_le_left ..

namespace State.Leads

variable {s u v t : State}

theorem refl (s : State) : s.Leads s :=
  ⟨id, id, id⟩

/-- A further change: of the three, one that is not argued reads nothing that changes. -/
theorem change (h : s.Leads u)
    (ranges : u.InRanges → v.InRanges := by
      exact fun ⟨modes, travel, fifo, further, report⟩ => ⟨modes, travel, fifo, further, report⟩)
    (fault : u.FaultExact → v.FaultExact := by exact id)
    (link : u.LinkExact → v.LinkExact := by exact fun ⟨held, waiting⟩ => ⟨held, waiting⟩) : s.Leads v :=
  have k : u.Leads v := (leads_iff u v).2 ⟨ranges, fault, link⟩
  ⟨k.ranges ∘ h.ranges, k.fault ∘ h.fault, k.link ∘ h.link⟩

/-- A change of the gantry state outside FAULT: the entry stays absent. -/
theorem setGantry (h : s.Leads u) {g : Gantry} (old : u.gantry.state ≠ .fault) (new : g ≠ .fault) :
    s.Leads (u.setGantry g) :=
  h.change (fault := fun agree => ⟨fun e => absurd e new, fun e => absurd (agree.2 e) old⟩)

theorem driven {g : GantryCtl} (k : Driven u g) (h : s.Leads u) : s.Leads { u with gantry := g } := by
  have same : State.gist { u with gantry := g } = u.gist := by simp only [State.gist, k.state]
  unfold State.Leads
  rw [same]
  exact h

/-! ### Drive ports, jobs and lanes -/

theorem issue {ts : List Target} (h : s.Leads u) : s.Leads (u.issue ts) := by
  obtain ⟨g, hg, k⟩ := issue_frame u ts
  rw [hg]
  exact h.driven k

theorem issueHome {axes : List Axis} (h : s.Leads u) : s.Leads (u.issueHome axes) := by
  obtain ⟨g, hg, k⟩ := issueHome_frame u axes
  rw [hg]
  exact h.driven k

theorem stop {axes : List Axis} (h : s.Leads u) : s.Leads (u.stop axes) := by
  obtain ⟨g, hg, k⟩ := stop_frame u axes
  rw [hg]
  exact h.driven k

theorem stopAll (h : s.Leads u) : s.Leads u.stopAll :=
  h.stop (axes := allAxes)

theorem modifyJob (slot : Nat) (f : Job → Job) (h : s.Leads u) : s.Leads (u.modifyJob slot f) := by
  rw [modifyJob_frame]
  exact h

theorem onRecordJob (f : Job → Job) (h : s.Leads u) : s.Leads (u.onRecordJob f) := by
  rw [onRecordJob_frame]
  exact h

/-- The FIFO takes a notice only below its depth (R178). -/
theorem pushNotice (n : JobNotice) (h : s.Leads u) : s.Leads (u.pushNotice n) := by
  unfold State.pushNotice
  split
  · next room =>
    have depth : (u.notices.fifo ++ [n]).length ≤ 16 := by
      rw [List.length_append]
      exact room
    exact h.change (ranges := fun ⟨modes, travel, _, further, report⟩ => ⟨modes, travel, depth, further, report⟩)
  · exact h

theorem finishJob (slot : Nat) (st : JobState) (r : Option Reason) (h : s.Leads u) :
    s.Leads (u.finishJob slot st r) := by
  unfold State.finishJob
  split
  · exact h
  · exact (h.modifyJob ..).pushNotice _

theorem closeBook (l : LaneNo) (h : s.Leads u) : s.Leads (u.closeBook l) := by
  obtain ⟨v, q, hv⟩ := closeBook_frame u l
  rw [hv]
  exact h

theorem closeTest (l : LaneNo) (h : s.Leads u) : s.Leads (u.closeTest l) := by
  obtain ⟨v, q, hv⟩ := closeTest_frame u l
  rw [hv]
  exact h

theorem place (t : Transfer) (h : s.Leads u) : s.Leads (u.place t) := by
  obtain ⟨v, q, o, hv⟩ := place_frame u t
  rw [hv]
  exact h

/-! ### The halt and faults -/

theorem halt (h : s.Leads u) : s.Leads u.halt := by
  unfold State.halt
  split
  · exact h
  · next r hr =>
    exact h.stopAll.setGantry (g := .halted r)
      (u.stopAll_sameWork.1.trans_ne (not_fault_of_haltMemory hr)) nofun

theorem boardLost (h : s.Leads u) : s.Leads u.boardLost :=
  h.onRecordJob Job.lose

/-- The first fault enters FAULT and creates the entry, without further faults (R154). -/
theorem firstFault (k : FaultKind) (f : FaultState) (h : s.Leads u) : s.Leads (u.firstFault k f) :=
  h.stopAll.change
    (ranges := fun ⟨modes, travel, fifo, _, _⟩ =>
      ⟨modes, travel, fifo, fun _ he => by cases he; exact Nat.zero_le _, Nat.zero_le _⟩)
    (fault := fun _ => ⟨fun _ => rfl, fun _ => rfl⟩)

/-- A further fault keeps the entry, and its count saturates (R157). -/
theorem furtherFault {e : FaultEntry} (he : u.fault.entry = some e) (h : s.Leads u) : s.Leads (u.furtherFault e) :=
  (h.stop (axes := allAxes)).change
    (ranges := fun ⟨modes, travel, fifo, _, _⟩ =>
      ⟨modes, travel, fifo, fun _ hf => by cases hf; exact bump15_le _, bump15_le _⟩)
    (fault := fun agree => ⟨fun _ => rfl, fun _ => agree.2 (by simp [he])⟩)

theorem takeFault (k : FaultKind) (h : s.Leads u) : s.Leads (u.takeFault k) := by
  have lost {v : State} (hv : s.Leads v) : s.Leads (if k = .drop then v.boardLost else v) := by
    split
    · exact hv.boardLost
    · exact hv
  refine lost ?_
  split
  · exact h.firstFault k _
  · exact h
  · next e he => exact h.furtherFault he

theorem inputFault (k : FaultKind) (h : s.Leads u) : s.Leads (u.inputFault k) := by
  unfold State.inputFault
  split
  · exact h.takeFault k
  · exact h

theorem holdLost (h : s.Leads u) : s.Leads u.holdLost := by
  unfold State.holdLost
  split
  · exact h.takeFault .drop
  · exact h

theorem faultsFound (h : s.Leads u) : s.Leads u.faultsFound :=
  List.foldlRecOn (motive := fun v : State => s.Leads v) _ _ h fun _ hv k _ => hv.inputFault k

/-! ### The phases of a transfer -/

theorem startGrip (h : s.Leads u) : s.Leads u.startGrip := by
  unfold State.startGrip
  split <;> exact h

theorem enterRetreat (h : s.Leads u) : s.Leads u.enterRetreat :=
  issue (stop h)

theorem abandonFor (slot tag : Nat) (h : s.Leads u) : s.Leads (u.abandonFor slot tag) := by
  unfold State.abandonFor State.abandon
  repeat' split
  case h_1 => exact h.enterRetreat
  all_goals exact h

theorem contactEvent (z : Nat) (h : s.Leads u) : s.Leads (u.contactEvent z) := by
  unfold State.contactEvent
  split
  · exact h
  · next t _ =>
    have stopped : s.Leads ((u.onTransfer fun t => { t with zc := some z }).stop [.z]) := stop h
    dsimp only
    split
    · exact startGrip stopped
    · exact enterRetreat stopped

theorem issueSearch (z : Nat) (h : s.Leads u) : s.Leads (u.issueSearch z) := by
  unfold State.issueSearch
  dsimp only
  repeat' split
  · exact h
  · exact contactEvent z (issue h)
  · exact issue h

theorem contactRises (z : Nat) (h : s.Leads u) : s.Leads (u.contactRises z) := by
  unfold State.contactRises
  split
  · exact h.contactEvent z
  · exact h

theorem endDescent (t : Transfer) (h : s.Leads u) : s.Leads (u.endDescent t) := by
  unfold State.endDescent
  repeat' split
  · exact contactEvent _ h
  · exact h.contactEvent _
  · exact enterRetreat h

theorem enterLift (h : s.Leads u) : s.Leads u.enterLift := by
  unfold State.enterLift
  dsimp only
  split
  · exact holdLost (issue h)
  · exact issue h

theorem gripSettles (level : Bool) (h : s.Leads u) : s.Leads (u.gripSettles level) := by
  have expiry (t : Transfer) : s.Leads (u.gripExpiry t level) := by
    unfold State.gripExpiry
    repeat' split
    · exact enterLift (onRecordJob Job.gripped h)
    · exact startGrip h
    · exact enterRetreat h
  unfold State.gripSettles
  repeat' split
  · exact expiry _
  all_goals exact h

theorem countPlaced (t : Transfer) (h : s.Leads u) : s.Leads (u.countPlaced t) := by
  unfold State.countPlaced
  split
  · exact h
  · dsimp only
    split
    · exact (h.modifyJob ..).finishJob ..
    · exact h.modifyJob ..

theorem releaseSettles (h : s.Leads u) : s.Leads u.releaseSettles := by
  unfold State.releaseSettles
  repeat' split
  · exact issue (place _ (countPlaced _ h))
  · exact h
  · exact issue (onRecordJob Job.reject h)
  all_goals exact h

/-! ### The end of a transfer and selection -/

theorem closeRecord (t : Transfer) (h : s.Leads u) : s.Leads (u.closeRecord t) := by
  have resolved : s.Leads (u.resolveCancel t) := by
    unfold State.resolveCancel
    repeat' split
    case h_2.isTrue => exact h.finishJob ..
    all_goals exact h
  exact resolved.closeTest t.lane

theorem endTransfer (t : Transfer) (h : s.Leads u) (hg : u.gantry.state ≠ .fault) : s.Leads (u.endTransfer t) := by
  have same : (u.closeRecord t).gantry.state = u.gantry.state :=
    ((u.resolveCancel t).closeTest_sameWork t.lane).1.trans (u.resolveCancel_sameWork t).1
  exact (h.closeRecord t).setGantry (same.trans_ne hg) nofun

theorem select (x : Hit) (h : s.Leads u) (hg : u.gantry.state ≠ .fault) : s.Leads (u.select x) :=
  faultsFound (issue (setGantry (g := .cycling) h hg nofun))

theorem scanTest {a : Scan} (l : LaneNo) (slot : Nat) (h : s.Leads a.state) : s.Leads (a.test l slot).state := by
  unfold Scan.test
  repeat' split
  case h_3 => exact h.finishJob ..
  all_goals exact h

theorem scan (h : s.Leads u) : s.Leads u.scan.state :=
  List.foldlRecOn (motive := fun a : Scan => s.Leads a.state) _ _ h fun _ ha l _ =>
    List.foldlRecOn (motive := fun a : Scan => s.Leads a.state) _ _ ha fun _ hb slot _ => hb.scanTest l slot

theorem attempts (fuel : Nat) (h : s.Leads u) (hg : u.gantry.state ≠ .fault) : s.Leads (State.attempts fuel u) := by
  induction fuel generalizing u with
  | zero => exact h
  | succ fuel ih =>
    have scanned : u.scan.state.gantry.state ≠ .fault := u.scan_sameWork.1.trans_ne hg
    simp only [State.attempts]
    repeat' split
    · exact h.scan.select _ scanned
    · exact ih h.scan scanned
    · exact h.scan

theorem reevaluate (h : s.Leads u) : s.Leads u.reevaluate := by
  unfold State.reevaluate
  split
  · next may => exact h.attempts _ (((mayAttempt_iff u).1 may).1.trans_ne nofun)
  · exact h

/-! ### The completion of a move -/

theorem completePhase (t : Transfer) (h : s.Leads u) (hg : u.gantry.state ≠ .fault) : s.Leads (u.completePhase t) := by
  unfold State.completePhase
  split
  case h_1 => exact issueSearch _ h
  case h_2 | h_4 | h_5 => exact issue h
  case h_3 => exact h.endDescent t
  case h_7 | h_8 => exact (h.endTransfer t hg).reevaluate
  all_goals exact h

theorem completePutDown (t : Transfer) (h : s.Leads u) (hg : u.gantry.state ≠ .fault) :
    s.Leads (u.completePutDown t) := by
  unfold State.completePutDown
  split
  case h_1 | h_2 => exact issue h
  case h_4 => exact (h.endTransfer t hg).reevaluate
  all_goals exact h

theorem completeMove (h : s.Leads u) : s.Leads u.completeMove := by
  unfold State.completeMove
  dsimp only
  split
  case h_1 hg => exact issueHome (setGantry (g := .homing .two) h (hg.trans_ne nofun) nofun)
  case h_2 hg => exact issue (setGantry (g := .homing .three) h (hg.trans_ne nofun) nofun)
  case h_3 hg => exact reevaluate (setGantry (g := .idle) h (hg.trans_ne nofun) nofun)
  case h_4 hg _ => exact completePhase _ h (hg.trans_ne nofun)
  case h_5 hg _ => exact completePutDown _ h (hg.trans_ne nofun)
  all_goals exact h

theorem axisReported (a : Axis) (h : s.Leads u) : s.Leads (u.axisReported a) := by
  unfold State.axisReported
  repeat' split
  · exact h.completeMove
  all_goals exact h

/-! ### The answers of the blocks -/

theorem answerSetModes (f : Frame) (h : s.Leads u) : s.Leads (answerSetModes f u).state := by
  unfold Machine.answerSetModes
  split
  · exact h
  · next r hr =>
    split
    · exact h
    · next barred =>
      have stored : s.Leads { u with modes := r.modes } :=
        h.change (ranges := fun ⟨_, travel, fifo, further, report⟩ =>
          ⟨modesOf_inRange hr, travel, fifo, further, report⟩)
      show s.Leads (({ u with modes := r.modes } : State).setDryRun r.dryRun)
      by_cases change : r.dryRun = u.gantry.dryRun
      · rw [setDryRun_same (s := { u with modes := r.modes }) change]
        exact stored
      · have may : u.mayChangeDryRun = true := by simpa [change] using barred
        have rests : u.gantry.state ≠ .fault :=
          ((mayChangeDryRun_iff u).1 may).1.elim (·.trans_ne nofun) (·.trans_ne nofun)
        unfold State.setDryRun State.enterDryRun
        dsimp only
        repeat' split
        · exact stored
        · exact stored.setGantry (g := .halted .idle) rests nofun
        · exact stored.setGantry (g := .idle) rests nofun
        · exact stored.setGantry (g := .unhomed) rests nofun

theorem answerSetTravel (f : Frame) (h : s.Leads u) : s.Leads (answerSetTravel f u).state := by
  unfold Machine.answerSetTravel
  dsimp only
  repeat' split
  case isFalse.isFalse.isFalse.isFalse.isFalse.isFalse ranges points _ _ clearance =>
    have stored : s.Leads { u with travel := travelOf f.body.payload } :=
      h.change (ranges := fun ⟨modes, _, fifo, further, report⟩ =>
        ⟨modes, travel_inRange (by simpa using ranges) (by simpa using points) clearance, fifo, further, report⟩)
    show s.Leads (({ u with travel := travelOf f.body.payload } : State).travelChanged u.travel.ztravel)
    unfold State.travelChanged
    repeat' split
    case isTrue.isFalse.isFalse hg _ _ => exact stored.setGantry (g := .unhomed) (hg.trans_ne nofun) nofun
    all_goals exact stored
  all_goals exact h

/-- While the store is cleared at a request, a reply may wait (R171). -/
theorem startClearing (h : s.Leads u) {d : Decoder} (ready : d ≠ .ready) (starting : d ≠ .starting) :
    s.Leads { u with decoder := d } :=
  h.change (link := fun ⟨held, _⟩ => ⟨held, fun _ => ⟨ready, starting⟩⟩)

/-- A shorter FIFO is still within its depth. -/
theorem setFifo (h : s.Leads u) {fifo : List JobNotice} (shorter : fifo.length ≤ u.notices.fifo.length) {lost : Bool} :
    s.Leads { u with notices := { fifo := fifo, lost := lost } } :=
  h.change (ranges := fun ⟨modes, travel, depth, further, report⟩ =>
    ⟨modes, travel, shorter.trans depth, further, report⟩)

theorem answerPartitionStore (f : Frame) (h : s.Leads u) : s.Leads (answerPartitionStore f u).state := by
  unfold Machine.answerPartitionStore
  repeat' split
  case h_2.isFalse => exact h.startClearing nofun nofun
  all_goals exact h

theorem answerRestart (f : Frame) (h : s.Leads u) : s.Leads (answerRestart f u).state := by
  have discarded : s.Leads u.discardRecord := by
    unfold State.discardRecord
    split <;> exact h
  unfold Machine.answerRestart
  repeat' split
  case isFalse.isFalse =>
    exact setFifo (startClearing (d := .restarting f) discarded nofun nofun) (fifo := []) (Nat.zero_le _) (lost := false)
  all_goals exact h

theorem answerAmendJob (f : Frame) (h : s.Leads u) : s.Leads (answerAmendJob f u).state := by
  have amended (e : Located) (a : Amendment) : s.Leads (u.amended e a) := by
    unfold State.amended
    dsimp only
    split
    · exact ((h.modifyJob ..).abandonFor ..).finishJob ..
    · exact h.modifyJob ..
  unfold Machine.answerAmendJob
  repeat' split
  case h_2.isFalse.isFalse.isFalse.isFalse => exact amended _ _
  all_goals exact h

theorem answerCancelJob (f : Frame) (h : s.Leads u) : s.Leads (answerCancelJob f u).state := by
  unfold Machine.answerCancelJob
  repeat' split
  case h_2.isFalse.isFalse.isTrue => exact h.modifyJob ..
  case h_2.isFalse.isFalse.isFalse => exact (h.abandonFor ..).finishJob ..
  all_goals exact h

theorem answerParkLane (f : Frame) (h : s.Leads u) : s.Leads (answerParkLane f u).state := by
  unfold Machine.answerParkLane State.parkLane
  dsimp only
  repeat' split
  case h_3.isFalse.isFalse => exact closeBook _ h
  all_goals exact h

theorem answerCloseBook (f : Frame) (h : s.Leads u) : s.Leads (answerCloseBook f u).state := by
  unfold Machine.answerCloseBook State.requestClose
  repeat' split
  case h_1.isFalse => exact closeBook _ h
  all_goals exact h

theorem homeZ (h : s.Leads u) (hg : u.gantry.state ≠ .fault) : s.Leads u.homeZ :=
  issueHome (h.setGantry hg nofun)

theorem answerHome (f : Frame) (h : s.Leads u) : s.Leads (answerHome f u).state := by
  unfold Machine.answerHome
  repeat' split
  case isTrue.isFalse hg _ => exact (h.homeZ (hg.elim (·.trans_ne nofun) (·.trans_ne nofun))).faultsFound
  all_goals exact h

theorem resumeRecord (z : Nat) (h : s.Leads u) : s.Leads (u.resumeRecord z) := by
  unfold State.resumeRecord State.resumePhase
  split
  · exact h
  · split
    case h_2 => exact h.issueSearch z
    case h_3 => exact h.startGrip
    case h_7 | h_12 => exact h
    case h_10 => exact issue (stop h)
    all_goals exact issue h

theorem resumeWork (r : Remembered) (z : Nat) (h : s.Leads u) (hg : u.gantry.state ≠ .fault) :
    s.Leads (u.resumeWork r z) := by
  cases r with
  | homing => exact h.homeZ hg
  | idle => exact h.setGantry hg nofun
  | cycling => exact (h.setGantry (g := .cycling) hg nofun).resumeRecord z
  | aborting => exact (h.setGantry (g := .aborting) hg nofun).resumeRecord z

theorem answerResume (f : Frame) (z : Nat) (h : s.Leads u) : s.Leads (answerResume f z u).state := by
  unfold Machine.answerResume
  repeat' split
  · exact h
  · exact h
  · next r hr => exact h.resumeWork r z (not_fault_of_remembered hr)

theorem answerAbort (f : Frame) (h : s.Leads u) : s.Leads (answerAbort f u).state := by
  have transfer (t : Transfer) (hg : u.gantry.state = .cycling) : s.Leads (u.abortTransfer t).state := by
    unfold State.abortTransfer
    split
    case h_1 | h_2 | h_3 => exact h.enterRetreat
    case h_4 | h_5 | h_6 => exact issue (stop (setGantry (g := .aborting) h (hg.trans_ne nofun) nofun))
    all_goals exact h
  unfold Machine.answerAbort
  split
  case h_1 hg =>
    split
    · exact transfer _ hg
    · exact h
  all_goals exact h

theorem answerReleaseHeld (f : Frame) (h : s.Leads u) : s.Leads (answerReleaseHeld f u).state := by
  unfold Machine.answerReleaseHeld
  repeat' split
  case h_1.isTrue => exact h.boardLost
  case h_2.isTrue hg _ =>
    exact h.boardLost.setGantry (g := .halted .cycling)
      (((u.onRecordJob_sameWork Job.lose).1.trans hg).trans_ne nofun) nofun
  all_goals exact h

/-- FAULT is left as the entry is removed (R161). -/
theorem clearEntry (h : s.Leads u) : s.Leads u.clearEntry :=
  h.change (ranges := fun ⟨modes, travel, fifo, _, report⟩ => ⟨modes, travel, fifo, nofun, report⟩)
    (fault := fun _ => ⟨nofun, nofun⟩)

theorem settleRecord (h : s.Leads u) : s.Leads u.settleRecord := by
  have settled : s.Leads u.settleInFlight := by
    unfold State.settleInFlight
    repeat' split
    case h_2.isTrue => exact h.onRecordJob Job.lose
    all_goals exact h
  unfold State.settleRecord
  split
  · exact h
  · exact settled.closeRecord _

theorem answerClearFault (f : Frame) (h : s.Leads u) : s.Leads (answerClearFault f u).state := by
  unfold Machine.answerClearFault
  repeat' split
  case isFalse.isFalse.isFalse => exact h.settleRecord.clearEntry
  all_goals exact h

theorem answerOf (k : RequestKind) (f : Frame) (z : Nat) (h : s.Leads u) : s.Leads (answerOf k f z u).state := by
  cases k
  case setModes => exact h.answerSetModes f
  case setTravel => exact h.answerSetTravel f
  case partitionStore => exact h.answerPartitionStore f
  case restart => exact h.answerRestart f
  case amendJob => exact h.answerAmendJob f
  case cancelJob => exact h.answerCancelJob f
  case parkLane => exact h.answerParkLane f
  case closeBook => exact h.answerCloseBook f
  case home => exact h.answerHome f
  case halt => exact h.halt
  case resume => exact h.answerResume f z
  case abort => exact h.answerAbort f
  case clearFault => exact h.answerClearFault f
  case releaseHeld => exact h.answerReleaseHeld f
  case queryStatus | readFault | readConfig | readTypes | listJobs | readStacks | run | hold => exact h
  case defineType | dropType | setTypeCursor | enqueueJob | readJob | setListCursor | setStack | loadStack | unloadStack |
      setLane | unparkLane | readLane =>
    simp only [Machine.answerOf, answerDefineType, answerDropType, answerSetTypeCursor, answerEnqueueJob, answerReadJob,
      answerSetListCursor, answerSetStack, answerLoadStack, answerUnloadStack, answerSetLane, answerUnparkLane,
      State.unparkLane, answerReadLane]
    repeat' split
    all_goals exact h

/-! ### The decoder, the receiver and the clearing -/

/-- Behind a reply in the slot a frame may be held, in any decoder state that fits what waits (R170, R171). -/
theorem answered (h : s.Leads u) {d : Decoder} {w : Option WaitingReply}
    (fits : u.LinkExact → w.isSome = true → d ≠ .ready ∧ d ≠ .starting) (f : Frame) (r : Result) (p : List Byte) :
    s.Leads (State.placeReply { u with decoder := d, waiting := w } f r p) := by
  unfold State.placeReply
  dsimp only
  split
  all_goals exact h.change (link := fun sound => ⟨fun _ => .inl rfl, fits sound⟩)

theorem placeReply (f : Frame) (r : Result) (p : List Byte) (h : s.Leads u) : s.Leads (u.placeReply f r p) :=
  h.answered (d := u.decoder) (w := u.waiting) (fun sound => sound.waiting) f r p

theorem examine (f : Frame) (z : Nat) (h : s.Leads u) : s.Leads (u.examine f z) := by
  have deliver {a : Answer} (ha : s.Leads a.state) : s.Leads (a.deliver f) := by
    unfold Answer.deliver
    dsimp only
    repeat' split
    · exact ha
    · exact (ha.placeReply ..).reevaluate
    · exact ha.placeReply ..
  unfold State.examine
  repeat' split
  · exact h.placeReply ..
  · exact h.placeReply ..
  · exact h.placeReply ..
  · exact deliver (answerOf _ f z h)

/-- A link whose held frame stands behind a reply. -/
theorem setLink (h : s.Leads u) {k : Link} (held : k.held.isSome = true → k.slot.isSome = true ∨ u.waiting.isSome = true) :
    s.Leads (u.setLink k) :=
  h.change (link := fun ⟨_, waiting⟩ => ⟨held, waiting⟩)

/-- However the link stands, once the decoder has taken what it can a frame is held only behind a reply (R170). -/
theorem takeHeld (k : Link) (z : Nat) (h : s.Leads u) : s.Leads ((u.setLink k).takeHeld z) := by
  unfold State.takeHeld
  split
  · exact examine _ z (setLink h nofun)
  · next blocked =>
    refine h.setLink fun held => ?_
    by_contra free
    obtain ⟨f, hf⟩ := Option.isSome_iff_exists.1 held
    simp only [not_or, Bool.not_eq_true, Option.isSome_eq_false_iff, Option.isNone_iff_eq_none] at free
    exact blocked f hf free.1 free.2

theorem frameComplete (f : Frame) (z : Nat) (h : s.Leads u) : s.Leads (u.frameComplete f z) := by
  unfold State.frameComplete
  split
  · exact h
  · exact h.takeHeld _ z

theorem requestArrives (f : Frame) (z : Nat) (h : s.Leads u) : s.Leads (u.requestArrives f z) := by
  unfold State.requestArrives
  split
  · exact h
  · exact h.frameComplete f z

theorem takeCharacter (v : Byte) (ok : Bool) (z : Nat) (h : s.Leads u) : s.Leads (u.takeCharacter v ok z) := by
  unfold State.takeCharacter State.assemble
  repeat' split
  case h_2.isTrue.isFalse.isTrue.isTrue => exact frameComplete _ z h
  all_goals exact h

theorem gapExpires (h : s.Leads u) : s.Leads u.gapExpires := by
  unfold State.gapExpires
  split <;> exact h

/-- With no reply waiting the decoder may be in any state. -/
theorem setDecoder (h : s.Leads u) (d : Decoder) (hw : u.waiting = none) : s.Leads { u with decoder := d } :=
  h.change (link := fun ⟨held, _⟩ => ⟨held, by simp [hw]⟩)

/-- The clearing's reply is placed, or it waits while the decoder stays in the clearing (R171). -/
theorem clearingReply (f : Frame) (p : List Byte) (h : s.Leads u) (hw : u.waiting = none) (ready : u.decoder ≠ .ready)
    (starting : u.decoder ≠ .starting) : s.Leads (u.clearingReply f p) := by
  unfold State.clearingReply
  split
  · exact (h.setDecoder .ready hw).placeReply ..
  · exact h.change (link := fun _ => ⟨fun _ => .inr rfl, fun _ => ⟨ready, starting⟩⟩)

theorem clearingEnds (h : s.Leads u) : s.Leads u.clearingEnds := by
  unfold State.clearingEnds
  split
  case h_1 _ hw => exact h.setDecoder .ready hw
  case h_2 hd hw | h_3 hd hw => exact clearingReply _ _ h hw (hd.trans_ne nofun) (hd.trans_ne nofun)
  all_goals exact h

/-- The slot that was empty takes the waiting reply (R171). -/
theorem placeWaiting (h : s.Leads u) : s.Leads u.placeWaiting := by
  unfold State.placeWaiting
  split
  · exact h.answered (d := .ready) (w := none) nofun ..
  · exact h

theorem startFrame (z : Nat) (h : s.Leads u) : s.Leads (u.startFrame z) := by
  unfold State.startFrame State.sendNext
  split
  · split
    · exact h.takeHeld _ z
    · repeat' split
      any_goals exact h
      next hf => exact setFifo h (by rw [hf]; exact Nat.le_succ _)
  · exact h

/-! ### The cell's events -/

theorem inPosition (a : Axis) (stale : Bool) (h : s.Leads u) : s.Leads (u.inPosition a stale) := by
  unfold State.inPosition
  split
  · exact h
  · exact h.axisReported a

theorem homedReport (a : Axis) (stale : Bool) (h : s.Leads u) : s.Leads (u.homedReport a stale) := by
  unfold State.homedReport
  split
  · exact h
  · exact h.axisReported a

theorem dryMoveEnds (h : s.Leads u) : s.Leads u.dryMoveEnds := by
  unfold State.dryMoveEnds
  split
  · exact completeMove h
  all_goals exact h

theorem sawRises (h : s.Leads u) : s.Leads u.sawRises := by
  unfold State.sawRises
  split
  · exact h
  · exact h.reevaluate

theorem takeOverEvent (l : LaneNo) (h : s.Leads u) : s.Leads (u.takeOverEvent l) := by
  have taken : s.Leads (u.takeOver l).1 := by
    obtain ⟨v, q, hv⟩ := takeOver_frame u l
    rw [hv]
    exact h
  unfold State.takeOverEvent
  split
  · exact taken.reevaluate
  · exact taken

theorem taken (l : LaneNo) (h : s.Leads u) : s.Leads (u.taken l) := by
  unfold State.taken
  repeat' split
  · exact h.takeOverEvent l
  all_goals exact h

theorem laneTimerExpires (l : LaneNo) (h : s.Leads u) : s.Leads (u.laneTimerExpires l) := by
  unfold State.laneTimerExpires
  repeat' split
  · exact h
  · exact h.takeOverEvent l
  · exact h

theorem bookWaitExpires (l : LaneNo) (h : s.Leads u) : s.Leads (u.bookWaitExpires l) := by
  unfold State.bookWaitExpires
  split
  · exact h.closeBook l
  · exact h

theorem crosses (l : LaneNo) (h : s.Leads u) : s.Leads (u.crosses l) := by
  unfold State.crosses
  split
  · exact reevaluate h
  · exact h

theorem tick (h : s.Leads u) : s.Leads u.tick := by
  unfold State.tick
  split <;> exact h

/-- The power-on state meets all three, whatever stood before (R183). -/
theorem poweredOn (s : State) (strap1 strap0 : Bool) : s.Leads (s.poweredOn strap1 strap0) where
  ranges _ := ⟨modes_powerOn_inRange, travel_powerOn_inRange, Nat.zero_le _, nofun, Nat.zero_le _⟩
  fault _ := ⟨nofun, nofun⟩
  link _ := ⟨nofun, nofun⟩

/-! ### Every command -/

/-- A command taken outside reset, its effect a change that keeps the three. -/
theorem take {f : State → State} (hf : ∀ u : State, s.Leads u → s.Leads (f u)) (e : s.take f = .next t) : s.Leads t := by
  unfold State.take at e
  cases e
  split
  · exact refl s
  · exact hf _ (refl s)

theorem onLine {i : Inputs} {f : State → State} (hf : ∀ u : State, s.Leads u → s.Leads (f u))
    (e : s.onLine i f = .next t) : s.Leads t := by
  unfold State.onLine at e
  cases e
  split
  · exact refl s
  · exact hf _ (refl s)

/-- An effect made on an asserted level only. -/
theorem ifLevel {f : State → State} (level : Bool) (hf : ∀ u : State, s.Leads u → s.Leads (f u)) (u : State)
    (hu : s.Leads u) : s.Leads (if level then f u else u) := by
  split
  · exact hf u hu
  · exact hu

theorem exec (c : Instr) (e : exec c s = .next t) : s.Leads t := by
  cases c
  case powerOnReset => cases e; exact poweredOn ..
  case resetPinAsserted | hostReadyAsserted => cases e; exact refl s
  case characterReceived v ok z =>
    exact take (f := fun u => u.takeCharacter v ok z) (fun _ h => h.takeCharacter v ok z) e
  case frameStart z => exact take (f := fun u => u.startFrame z) (fun _ h => h.startFrame z) e
  case gapTimerExpiry => exact take (f := State.gapExpires) (fun _ h => h.gapExpires) e
  case lineBreak => exact take (f := fun u => u.dropFrame .break) (fun _ h => h) e
  case storeClearingEnd => exact take (f := State.clearingEnds) (fun _ h => h.clearingEnds) e
  case waitingReplyPlaced => exact take (f := State.placeWaiting) (fun _ h => h.placeWaiting) e
  case frameSent => exact take (f := State.endFrame) (fun _ h => h) e
  case starveCrossing l => exact take (f := fun u => u.crosses l) (fun _ h => h.crosses l) e
  case dryMoveElapsed => exact take (f := State.dryMoveEnds) (fun _ h => h.dryMoveEnds) e
  case homedReport a stale => exact take (f := fun u => u.homedReport a stale) (fun _ h => h.homedReport a stale) e
  case gripSettleExpiry level => exact take (f := fun u => u.gripSettles level) (fun _ h => h.gripSettles level) e
  case releaseSettleExpiry => exact take (f := State.releaseSettles) (fun _ h => h.releaseSettles) e
  case takenPulse l => exact take (f := fun u => u.taken l) (fun _ h => h.taken l) e
  case laneTimerExpiry l => exact take (f := fun u => u.laneTimerExpires l) (fun _ h => h.laneTimerExpires l) e
  case bookWaitExpiry l => exact take (f := fun u => u.bookWaitExpires l) (fun _ h => h.bookWaitExpires l) e
  case safetyLineAsserted => exact onLine (f := State.halt) (fun _ h => h.halt) e
  case safetyLineReleased | sawReadyFall => exact onLine (f := id) (fun _ h => h) e
  case inPositionReport a stale z =>
    exact onLine (f := fun u => u.inPosition a stale) (fun _ h => h.inPosition a stale) e
  case contactAsserted level z =>
    exact onLine (f := fun u => if level then u.contactRises z else u) (ifLevel level fun _ h => h.contactRises z) e
  case dropFault level =>
    exact onLine (f := fun u => if level then u.holdLost else u) (ifLevel level fun _ h => h.holdLost) e
  case driveFaultAsserted a level =>
    exact onLine (f := fun u => if level then u.inputFault (driveFaultKind a) else u)
      (ifLevel level fun _ h => h.inputFault _) e
  case limitAsserted level =>
    exact onLine (f := fun u => if level then u.inputFault .limit else u) (ifLevel level fun _ h => h.inputFault _) e
  case sawReadyRise => exact onLine (f := State.sawRises) (fun _ h => h.sawRises) e
  case resume b z =>
    exact take (f := fun u => u.requestArrives (frameOfRequest .resume b) z) (fun _ h => h.requestArrives _ z) e
  all_goals
    exact take (f := fun u => u.requestArrives { kind := _, body := _ } u.inputs.zReport)
      (fun _ h => h.requestArrives _ _) e

/-- A step is a command, or a millisecond, which none of the three reads. -/
theorem step (e : step s = .next t) : s.Leads t := by
  unfold Machine.step at e
  split at e
  · cases e
    exact (refl s).tick
  · next c rest _ => exact exec (s := s.withPending rest) c e

end State.Leads

/-- Settles O59: every change a step is made of keeps each of the three. -/
theorem stepKeepsRangesFaultAndLink : Obligations.StepKeepsRangesFaultAndLink := by
  unfold Obligations.StepKeepsRangesFaultAndLink
  intro s t e
  obtain ⟨ranges, fault, link⟩ := (leads_iff s t).1 (State.Leads.step e)
  exact ⟨ranges, fault, link⟩

end Sys2Proof.Machine
end

section
/-! QUERY STATUS and READ FAULT (R159, R174). -/

namespace Sys2Proof.Machine

/-! ## QUERY STATUS (R174) -/

/-- The bytes that follow decoder state and transfer fields: remembered state, remembered phase, homing step. -/
def State.gantryFields (s : State) : List Byte :=
  [byteOf (rememberedCode s.gantry.state.remembered), byteOf (phaseCode s.rememberedPhase),
    byteOf s.gantry.state.stepCode]

/-- The payload of QUERY STATUS. -/
def State.statusFields (s : State) : List Byte :=
  [byteOf s.decoder.code] ++ transferFields s.transfer ++ s.gantryFields ++ headFields s.gantry.head

theorem answerQueryStatus_eq (f : Frame) (s : State) : answerQueryStatus f s = reading s.statusFields s := rfl

/-- QUERY STATUS is decided in every decoder state (R170). -/
theorem exec_queryStatus {b : Body} {s : State} (h : s.takesAtOnce) (hb : b.payload = []) :
    exec (.queryStatus b) s = .next (s.quiet.withReply 0x01 b .ok s.statusFields) := by
  have examined : s.quiet.examine (frameOfRequest .queryStatus b) 0 =
      (answerQueryStatus (frameOfRequest .queryStatus b) s.quiet).deliver (frameOfRequest .queryStatus b) := by
    simp [State.examine, frameOfRequest, hb, RequestKind.payloadLength, answerOf]
  calc exec (.queryStatus b) s
    _ = .next (s.quiet.examine (frameOfRequest .queryStatus b) 0) :=
        exec_request_examined h .queryStatus b (by simp [Body.fits, hb]) 0
    _ = .next (s.quiet.withReply 0x01 b .ok s.statusFields) := by
        rw [examined, answerQueryStatus_eq, deliver_reading]
        rfl

theorem transferFields_length (t : Option Transfer) : (transferFields t).length = 11 := by
  cases t <;> rfl

theorem headFields_length (h : Option Head) : (headFields h).length = 7 := by
  cases h <;> rfl

section Parts

variable (s : State)

theorem statusFields_length : s.statusFields.length = 22 := by
  simp [State.statusFields, State.gantryFields, transferFields_length, headFields_length]

theorem statusFields_transfer : (s.statusFields.drop 1).take 11 = transferFields s.transfer := by
  rw [State.statusFields, List.append_assoc, List.append_assoc]
  exact List.take_left' (transferFields_length _)

theorem statusFields_drop : s.statusFields.drop 12 = s.gantryFields ++ headFields s.gantry.head := by
  rw [State.statusFields, List.append_assoc]
  exact List.drop_left' (by simp [transferFields_length])

theorem statusFields_gantry : (s.statusFields.drop 12).take 3 = s.gantryFields := by
  rw [statusFields_drop]
  exact List.take_left' rfl

theorem statusFields_head : s.statusFields.drop 15 = headFields s.gantry.head := by
  rw [← List.drop_drop (i := 3) (j := 12), statusFields_drop]
  exact List.drop_left' rfl

end Parts

/-- Settles O22: QUERY STATUS by the parts of its payload, READ FAULT by the fields of the entry. -/
theorem statusAndFaultAreReported : Obligations.StatusAndFaultAreReported := by
  unfold Obligations.StatusAndFaultAreReported
  intro b s h hb
  refine ⟨⟨s.statusFields, exec_queryStatus h hb, statusFields_length s, rfl, fun t ht => ?_, fun ht => ?_, ?_, ?_⟩,
    fun hd => ?_⟩
  · rw [statusFields_transfer, ht]
    cases hz : t.zc <;> simp only [transferFields, hz] <;> rfl
  · rw [statusFields_transfer, ht]
    rfl
  · rw [statusFields_gantry, State.gantryFields, State.rememberedPhase, State.shownPhase]
    cases s.gantry.state with
    | halted r => cases r <;> cases s.transfer <;> rfl
    | homing st => cases st <;> rfl
    | unhomed | idle | cycling | aborting | fault => rfl
  · rw [statusFields_head]
    cases s.gantry.head <;> rfl
  · refine exec_reading (u := s.quiet) ⟨h, hd⟩ .readFault b (by rw [hb]; rfl) ?_
    simp only [answerOf, answerReadFault, State.quiet_fault, State.quiet_inputs]
    cases s.fault.entry with
    | none => rfl
    | some e =>
      dsimp only [FaultEntry.fields]
      cases e.remembered <;> cases e.phase <;> cases e.jobTag <;> rfl

end Sys2Proof.Machine
end

section
/-! RELEASE HELD and CLEAR FAULT (R160, R161). -/

namespace Sys2Proof.Machine

/-! ## RELEASE HELD (R160) -/

theorem holding_some {s : State} {t : Transfer} (ht : s.transfer = some t) : s.holding = t.held := by
  simp [State.holding, ht]

theorem holding_none {s : State} (ht : s.transfer = none) : s.holding = false := by
  simp [State.holding, ht]

section Answers

variable {s : State} (f : Frame)

theorem answerReleaseHeld_moving (h : s.gantry.state = .unhomed ∨ (∃ st, s.gantry.state = .homing st) ∨
    s.gantry.state = .idle ∨ s.gantry.state = .cycling ∨ s.gantry.state = .aborting) :
    answerReleaseHeld f s = refuse .gantryState s := by
  rcases h with h | ⟨st, h⟩ | h | h | h <;> simp only [answerReleaseHeld, h]

theorem answerReleaseHeld_empty (h : s.gantry.state = .fault ∨ ∃ r, s.gantry.state = .halted r)
    (empty : s.holding = false) : answerReleaseHeld f s = refuse .nothingToAbort s := by
  rcases h with h | ⟨r, h⟩ <;> simp [answerReleaseHeld, h, empty]

theorem answerReleaseHeld_fault (h : s.gantry.state = .fault) (held : s.holding = true) :
    answerReleaseHeld f s = accept s.boardLost := by
  simp [answerReleaseHeld, h, held]

theorem answerReleaseHeld_halted {r : Remembered} (h : s.gantry.state = .halted r) (held : s.holding = true) :
    answerReleaseHeld f s = accept s.haltedRelease := by
  simp [answerReleaseHeld, h, held]

end Answers

/-- Settles O51: the answer by gantry state and held board; what it changes by `boardLost_eq`. -/
theorem releaseHeldLetsTheBoardGo : Obligations.ReleaseHeldLetsTheBoardGo := by
  unfold Obligations.ReleaseHeldLetsTheBoardGo
  intro b s h hb
  have len : b.payload.length = RequestKind.payloadLength .releaseHeld := by rw [hb]; rfl
  have refused {r : Result} (ha : answerReleaseHeld (frameOfRequest .releaseHeld b) s.quiet = refuse r s.quiet) :
      exec (.releaseHeld b) s = .next (s.quiet.withReply 0x22 b r []) := exec_refused h .releaseHeld b len ha
  have accepted {u w : State} (ha : answerReleaseHeld (frameOfRequest .releaseHeld b) s.quiet = accept u) (hu : u = w) :
      exec (.releaseHeld b) s = .next (w.withReply 0x22 b .ok []) := hu ▸ exec_accepted h .releaseHeld b len ha
  refine ⟨fun hg => refused (answerReleaseHeld_moving _ hg), fun hg empty => refused (answerReleaseHeld_empty _ hg ?_),
    fun t st ht held hst => ?_⟩
  · rcases empty with ht | ⟨t, ht, held⟩
    · exact holding_none ht
    · exact (holding_some ht).trans held
  · have holds : s.quiet.holding = true := (holding_some ht).trans held
    have lost : s.quiet.boardLost =
        { s.quiet with valves := 0, transfer := some { t with held := false }, store := st } := by
      rw [boardLost_eq (s := s.quiet) ht, hst, onRecordJob_of_store (s := s) (u := s.quiet) rfl rfl]
      rfl
    refine ⟨fun hg => accepted (answerReleaseHeld_fault _ hg holds) lost,
      fun r hg => accepted (answerReleaseHeld_halted _ hg holds) ?_⟩
    rw [State.haltedRelease, lost]
    rfl

/-! ## CLEAR FAULT (R161) -/

/-- A slot's place in the list depends on how many entries there are, not on what they carry. -/
theorem indexOfSlot_setEntries {s : State} {es : List Job} (h : es.length = s.entryCount) (slot : Nat) :
    (s.setEntries es).indexOfSlot slot = s.indexOfSlot slot := by
  have count : (s.setEntries es).entryCount = s.entryCount := h
  simp only [State.indexOfSlot, count]
  rfl

/-- After its change a slot reads the changed entry. -/
theorem jobAt_modifyJob_self (s : State) (slot : Nat) (f : Job → Job) :
    (s.modifyJob slot f).jobAt slot = (s.jobAt slot).map f := by
  unfold State.modifyJob
  cases hk : s.indexOfSlot slot with
  | none => simp [State.jobAt, hk]
  | some k =>
    have same := indexOfSlot_setEntries (List.length_modify f s.store.jobs.entries k) slot
    simp [State.jobAt, hk, same]

/-- The record's job after an effect that leaves the tags. -/
theorem recordJob_onRecordJob (s : State) {f : Job → Job} (hf : ∀ j, (f j).tag = j.tag) :
    (s.onRecordJob f).recordJob = s.recordJob.map f := by
  cases hj : s.recordJob with
  | none => rw [onRecordJob_of_none hj, hj, Option.map_none]
  | some j =>
    obtain ⟨t, ht, slot, tag⟩ := recordJob_eq_some.1 hj
    rw [onRecordJob_of_some ht hj, Option.map_some, recordJob_eq_some]
    refine ⟨t, by rw [modifyJob_frame]; exact ht, ?_, (hf j).trans tag⟩
    rw [jobAt_modifyJob_self, slot, Option.map_some]

section Settle

variable {s u v : State} {t : Transfer}

/-- An uncounted board is counted lost (R161, step 1). -/
theorem settleInFlight_lost {j : Job} (ht : s.transfer = some t) (hj : s.recordJob = some j) (h : j.inFlight = true) :
    s.settleInFlight = s.modifyJob t.jobSlot Job.lose := by
  simp only [State.settleInFlight, hj, h, if_true]
  exact onRecordJob_of_some ht hj Job.lose

theorem settleInFlight_counted (h : ∀ j, s.recordJob = some j → j.inFlight = false) : s.settleInFlight = s := by
  unfold State.settleInFlight
  split
  · rfl
  · next j hj => exact if_neg (by simp [h j hj])

/-- A pending cancel stays pending as the board is counted. -/
theorem settleInFlight_cancelPending (s : State) :
    s.settleInFlight.recordJob.map Job.cancelPending = s.recordJob.map Job.cancelPending := by
  unfold State.settleInFlight
  repeat' split
  case h_2.isTrue =>
    rw [recordJob_onRecordJob s (f := Job.lose) fun _ => rfl, Option.map_map]
    rfl
  all_goals rfl

theorem settleInFlight_frame (s : State) : s.settleInFlight = { s with store := s.settleInFlight.store } := by
  unfold State.settleInFlight
  repeat' split
  case h_2.isTrue => exact onRecordJob_frame s Job.lose
  all_goals rfl

theorem resolveCancel_frame (s : State) (t : Transfer) : s.resolveCancel t =
    { s with store := (s.resolveCancel t).store, notices := (s.resolveCancel t).notices } := by
  unfold State.resolveCancel
  repeat' split
  case h_2.isTrue => exact finishJob_frame ..
  all_goals rfl

theorem settleRecord_none (ht : s.transfer = none) : s.settleRecord = s := by
  simp only [State.settleRecord, ht]

/-- The record goes after the close test, the entry with it, and the gantry is UNHOMED (R161). -/
theorem settleRecord_clearEntry (ht : s.transfer = some t) (hu : s.settleInFlight = u) (hv : u.resolveCancel t = v) :
    s.settleRecord.clearEntry = { v.closeTest t.lane with
      transfer := none, gantry := { s.gantry with state := .unhomed }, fault := { s.fault with entry := none } } := by
  have gantry : v.gantry = s.gantry := by rw [← hv, resolveCancel_frame, ← hu, settleInFlight_frame]
  have fault : v.fault = s.fault := by rw [← hv, resolveCancel_frame, ← hu, settleInFlight_frame]
  obtain ⟨w, q, frame⟩ := closeTest_frame v t.lane
  simp only [State.settleRecord, ht, State.closeRecord, hu, hv]
  rw [frame, ← gantry, ← fault]
  rfl

theorem answerClearFault_accepted (hs : s.inputs.safety = false) (hg : s.gantry.state = .fault)
    (empty : s.holding = false) (f : Frame) : answerClearFault f s = accept s.settleRecord.clearEntry := by
  simp [answerClearFault, hs, hg, empty]

end Settle

/-- Settles O52: the checks as `answerClearFault` makes them; an accepted one by `settleRecord_clearEntry`, its steps by the
record's job. -/
theorem clearFaultSettlesTheRecord : Obligations.ClearFaultSettlesTheRecord := by
  unfold Obligations.ClearFaultSettlesTheRecord
  intro b s h hb
  have len : b.payload.length = RequestKind.payloadLength .clearFault := by rw [hb]; rfl
  have refused {r : Result} (ha : answerClearFault (frameOfRequest .clearFault b) s.quiet = refuse r s.quiet) :
      exec (.clearFault b) s = .next (s.quiet.withReply 0x21 b r []) := exec_refused h .clearFault b len ha
  have accepted {w : State} (hs : s.inputs.safety = false) (hg : s.gantry.state = .fault) (empty : s.holding = false)
      (hw : s.quiet.settleRecord.clearEntry = w) : exec (.clearFault b) s = .next (w.withReply 0x21 b .ok []) :=
    hw ▸ exec_accepted h .clearFault b len
      (answerClearFault_accepted (s := s.quiet) hs hg empty (frameOfRequest .clearFault b))
  refine ⟨fun hs => refused ?_, fun hs hg => refused ?_, fun t hs hg ht held => refused ?_, fun hs hg ht => ?_,
    fun t u v hs hg ht held hu hv => ?_⟩
  · simp [answerClearFault, hs]
  · simp [answerClearFault, hs, hg]
  · have holds : s.quiet.holding = true := (holding_some ht).trans held
    simp [answerClearFault, hs, hg, holds]
  · exact accepted hs hg (holding_none ht) (congrArg State.clearEntry (settleRecord_none (s := s.quiet) ht))
  · have settled : s.quiet.settleInFlight = u := by
      rcases hu with ⟨j, hj, board, rfl⟩ | ⟨counted, rfl⟩
      · exact settleInFlight_lost (s := s.quiet) ht hj board
      · exact settleInFlight_counted (s := s.quiet) counted
    have pending : u.recordJob.map Job.cancelPending = s.recordJob.map Job.cancelPending :=
      settled ▸ settleInFlight_cancelPending s.quiet
    have resolved : u.resolveCancel t = v := by
      rcases hv with ⟨j, hj, asked, rfl⟩ | ⟨unasked, rfl⟩
      · rw [hj, Option.map_some, asked, Option.map_eq_some_iff] at pending
        obtain ⟨k, hk, asked⟩ := pending
        exact resolveCancel_pending hk asked t
      · refine resolveCancel_unasked (fun k hk => ?_) t
        rw [hk, Option.map_some, eq_comm, Option.map_eq_some_iff] at pending
        obtain ⟨j, hj, same⟩ := pending
        exact same.symm.trans (unasked j hj)
    exact accepted hs hg ((holding_some ht).trans held) (settleRecord_clearEntry (s := s.quiet) ht settled resolved)

end Sys2Proof.Machine
end

section
/-! The receiver, the decoder's examination, and starting to send (R164 to R170, R173, R175). -/

namespace Sys2Proof.Machine

/-! ## The link at rest (R175) -/

/-- With no item waiting nothing leaves. -/
theorem sendNext_nothing {s : State} (hs : s.link.slot = none) (hf : s.fault.note = false)
    (hg : s.gantryNoticePending = false) (hl : ∀ l, (s.lane l).noticePending = false)
    (hk : s.stackNoticePending = false) (hn : s.notices.fifo = []) (z : Nat) : s.sendNext z = s := by
  simp only [State.sendNext, hs, hf, hg, laneNoticeDue_none hl, hk, hn, Bool.false_eq_true, if_false]

theorem startFrame_waits {s : State} (h : s.inputs.hostReady = false ∨ s.link.tx.isSome = true) (z : Nat) :
    s.startFrame z = s := by
  refine if_neg fun free => ?_
  rw [Bool.and_eq_true, Option.isNone_iff_eq_none] at free
  obtain ⟨idle, ready⟩ := free
  rcases h with low | sending
  · rw [low] at ready
    cases ready
  · rw [idle] at sending
    cases sending

theorem startFrame_of_sendNext {s : State} {z : Nat} (h : s.sendNext z = s) : s.startFrame z = s := by
  unfold State.startFrame
  split
  · exact h
  · rfl

/-- Settles O12: FRAME_START changes nothing by `startFrame_waits` while it may not start, and by `sendNext_nothing` with nothing
waiting. -/
theorem nothingStartsWithoutHostReady : Obligations.NothingStartsWithoutHostReady := by
  unfold Obligations.NothingStartsWithoutHostReady
  refine fun s z => ⟨fun level => rfl, fun hr => take_running hr State.endFrame, fun hr idle => ?_⟩
  have unchanged : s.quiet.startFrame z = s.quiet := by
    rcases idle with low | sending | ⟨hs, hf, hg, hl, hk, hn⟩
    · exact startFrame_waits (s := s.quiet) (.inl low) z
    · exact startFrame_waits (s := s.quiet) (.inr sending) z
    · exact startFrame_of_sendNext (sendNext_nothing (s := s.quiet) hs hf hg hl hk hn z)
  exact (take_running hr fun u => u.startFrame z).trans (congrArg _ unchanged)

/-! ## A frame the decoder cannot take (R168, R169, R170) -/

theorem requestArrives_fits {f : Frame} (hf : f.body.payload.length ≤ 56) (s : State) (z : Nat) :
    s.requestArrives f z = s.frameComplete f z :=
  if_neg (Nat.not_lt.2 hf)

theorem frameComplete_overrun {s : State} (h : s.link.held.isSome = true) (f : Frame) (z : Nat) :
    s.frameComplete f z = s.discard .overrun := by
  obtain ⟨g, hg⟩ := Option.isSome_iff_exists.1 h
  simp only [State.frameComplete, hg]

/-- Behind a reply, in the slot or waiting, the decoder does not take the held frame. -/
theorem takeHeld_waits {s : State} (h : s.link.slot.isSome = true ∨ s.waiting.isSome = true) (z : Nat) :
    s.takeHeld z = s := by
  unfold State.takeHeld
  split
  · next slot waiting =>
    rw [slot, waiting] at h
    simp at h
  · rfl

theorem frameComplete_held {s : State} (hh : s.link.held = none)
    (h : s.link.slot.isSome = true ∨ s.waiting.isSome = true) (f : Frame) (z : Nat) :
    s.frameComplete f z = s.setLink { s.link with held := some f } := by
  simp only [State.frameComplete, hh]
  exact takeHeld_waits (s := s.setLink { s.link with held := some f }) h z

/-- Settles O8: the frame's arrival is its completion, `frameComplete_overrun` behind a held frame and `frameComplete_held`
behind a reply. -/
theorem frameIsHeldOrOverruns : Obligations.FrameIsHeldOrOverruns := by
  unfold Obligations.FrameIsHeldOrOverruns
  intro k b z s hr hb
  have completes : exec (requestCommand k b z) s = .next (s.quiet.frameComplete (frameOfRequest k b) z) := by
    rw [exec_request_z, take_running hr, requestArrives_fits ((fits_iff b).1 hb)]
  rw [completes]
  refine ⟨fun held => ?_, fun free busy => ?_⟩
  · rw [frameComplete_overrun (s := s.quiet) held]
    rfl
  · rw [frameComplete_held (s := s.quiet) free busy]
    rfl

/-! ## The decoder's examination (R170) -/

theorem examine_unknownKind {f : Frame} (hk : kindOf f.kind = none) (s : State) (z : Nat) :
    s.examine f z = s.placeReply f .unknownKind [] := by
  simp only [State.examine, hk]

theorem examine_badLength {k : RequestKind} {b : Body} (hb : b.payload.length ≠ k.payloadLength) (s : State) (z : Nat) :
    s.examine (frameOfRequest k b) z = s.withReply k.code b .badLength [] := by
  rw [← placeReply_eq_withReply _ _ _ _ _ fun _ => rfl]
  simp only [State.examine, frameOfRequest, kindOf_code]
  exact if_pos hb

theorem examine_busy {k : RequestKind} {b : Body} (hb : b.payload.length = k.payloadLength) {s : State}
    (hd : s.decoder ≠ .ready) (hk : k ≠ .queryStatus) (z : Nat) :
    s.examine (frameOfRequest k b) z = s.withReply k.code b .busy [] := by
  rw [← placeReply_eq_withReply _ _ _ _ _ fun _ => rfl]
  simp only [State.examine, frameOfRequest, kindOf_code]
  exact (if_neg (not_not.2 hb)).trans (if_pos ⟨hd, hk⟩)

/-- The known kinds are 0x01 to 0x22 (R165). -/
theorem kindKnown_eq_false_iff {c : Byte} : kindKnown c = false ↔ c.toNat = 0 ∨ 0x22 < c.toNat := by
  rw [kindKnown, Bool.and_eq_false_iff, decide_eq_false_iff_not, decide_eq_false_iff_not]
  omega

theorem kindKnown_code (k : RequestKind) : kindKnown k.code = true := by
  cases k <;> decide

theorem code_of_kindOf {c : Byte} {k : RequestKind} (h : kindOf c = some k) : c = k.code := by
  apply BitVec.eq_of_toNat_eq
  unfold kindOf at h
  split at h <;> cases h <;> assumption

/-- A kind byte outside the table is no kind of request. -/
theorem kindOf_unknown {c : Byte} (hc : kindKnown c = false) : kindOf c = none := by
  rw [Option.eq_none_iff_forall_ne_some]
  intro k hk
  rw [code_of_kindOf hk, kindKnown_code] at hc
  cases hc

/-- Settles O9: each refusal is one branch of the decoder's examination; the tables are read off the codes. -/
theorem decoderRefusesInOrder : Obligations.DecoderRefusesInOrder := by
  unfold Obligations.DecoderRefusesInOrder
  refine ⟨fun b z s takes len => ⟨fun kind hc => ?_, fun k hb => ?_, fun k hb hd hk => ?_⟩, fun k => ?_, fun r => ?_⟩
  · have unknown := kindKnown_eq_false_iff.2 hc
    rw [exec_unknownKind_examined takes unknown b ((fits_iff b).2 len) z, examine_unknownKind (kindOf_unknown unknown),
      placeReply_eq_withReply _ _ _ _ _ fun _ => rfl]
  · rw [exec_request_examined takes k b ((fits_iff b).2 len), examine_badLength hb]
  · rw [exec_request_examined takes k b ((fits_iff b).2 len), examine_busy (s := s.quiet) hb hd hk]
  · cases k <;> rfl
  · cases r <;> rfl

end Sys2Proof.Machine
end

section
/-! The receiver, character by character, and the characters of a whole frame (R164, R166, R167). -/

namespace Sys2Proof.Machine

/-! ## Bytes of a list (R164) -/

/-- The bytes in front keep their places. -/
theorem u8_append {l : List Byte} {i : Nat} (h : i < l.length) (r : List Byte) : u8 (l ++ r) i = u8 l i := by
  simp only [u8, List.getD_append l r 0 i h]

/-- The byte that follows stands behind them. -/
theorem u8_append_length (l : List Byte) (v : Byte) : u8 (l ++ [v]) l.length = v.toNat := by
  simp [u8, List.getD_eq_getElem?_getD]

theorem byteSum_toNat (bs : List Byte) : (byteSum bs).toNat = (bs.map BitVec.toNat).sum % 256 := by
  induction bs with
  | nil => rfl
  | cons b bs ih => rw [byteSum_cons, BitVec.toNat_add, ih, List.map_cons, List.sum_cons, Nat.add_mod_mod]

@[simp] theorem frameBytes_length (kind b3 b4 : Byte) (p : List Byte) :
    (frameBytes kind b3 b4 p).length = p.length + 6 := by
  simp [frameBytes]

/-- The second byte of a frame is its length. -/
theorem frameBytes_u8_one (kind b3 b4 : Byte) {p : List Byte} (h : p.length ≤ 56) :
    u8 (frameBytes kind b3 b4 p) 1 = p.length :=
  byteOf_toNat (Nat.lt_of_le_of_lt h (by decide))

/-- The frame is read back from its bytes. -/
theorem frameOf_frameBytes (kind tag flags : Byte) {p : List Byte} (h : p.length ≤ 56) :
    frameOf (frameBytes kind tag flags p) = { kind := kind, body := { tag := tag, flags := flags, payload := p } } := by
  have payload : ((frameBytes kind tag flags p).drop 5).take p.length = p := List.take_left
  rw [frameOf, frameBytes_u8_one kind tag flags h, payload]
  rfl

/-! ## A character (R166) -/

theorem exec_character {s : State} (h : s.resetHeld = false) (v : Byte) (ok : Bool) (z : Nat) :
    exec (.characterReceived v ok z) s = .next (s.quiet.takeCharacter v ok z) :=
  take_running h fun u => u.takeCharacter v ok z

section Hunting

variable {s : State} (h : s.link.rx = .hunting)

include h

theorem takeCharacter_start (z : Nat) :
    s.takeCharacter startByte true z = s.setLink { s.link with rx := .assembling [startByte] } := by
  simp [State.takeCharacter, h]

theorem takeCharacter_hunting {v : Byte} {ok : Bool} (other : ok = false ∨ v ≠ startByte) (z : Nat) :
    s.takeCharacter v ok z = s := by
  simp only [State.takeCharacter, h]
  exact if_neg (by simpa [imp_iff_not_or] using other)

end Hunting

section Assembling

variable {s : State} {bs : List Byte} (h : s.link.rx = .assembling bs)

include h

theorem takeCharacter_parity (v : Byte) (z : Nat) : s.takeCharacter v false z = s.dropFrame .parity := by
  simp only [State.takeCharacter, h, Bool.false_eq_true, if_false]

theorem takeCharacter_assembling (v : Byte) (z : Nat) : s.takeCharacter v true z = s.assemble (bs ++ [v]) z := by
  simp only [State.takeCharacter, h, if_true]

theorem gapExpires_assembling : s.gapExpires = s.dropFrame .gap := by
  simp only [State.gapExpires, h]

end Assembling

/-! ## The bytes so far (R166) -/

section Assemble

variable {bs : List Byte} (s : State) (z : Nat)

theorem assemble_long (h : bs.length = 2) (long : 56 < u8 bs 1) : s.assemble bs z = s.dropFrame .length :=
  if_pos ⟨h, long⟩

/-- Short of its end, with a length byte in range, the frame goes on. -/
theorem assemble_on (fits : bs.length = 2 → u8 bs 1 ≤ 56) (short : 2 ≤ bs.length → bs.length ≠ u8 bs 1 + 6) :
    s.assemble bs z = s.setLink { s.link with rx := .assembling bs } := by
  unfold State.assemble maxPayload
  rw [if_neg fun ⟨two, long⟩ => Nat.not_lt.2 (fits two) long, if_neg fun ⟨two, full⟩ => short two full]

/-- A frame as long as its length byte says is judged by its check byte. -/
theorem assemble_full (full : bs.length = u8 bs 1 + 6) : s.assemble bs z =
    if byteSum bs = 0 then (s.setLink { s.link with rx := .hunting }).frameComplete (frameOf bs) z
    else s.dropFrame .check := by
  unfold State.assemble
  rw [if_neg fun ⟨two, _⟩ => by omega, if_pos ⟨by omega, full⟩]

end Assemble

/-- Settles O6: each event is one arm of the receiver; a character taken while assembling is judged by the length byte, which is
the character itself when it is the second, else the one already taken. -/
theorem receiverFollowsItsStates : Obligations.ReceiverFollowsItsStates := by
  unfold Obligations.ReceiverFollowsItsStates
  intro s v z hr
  have gap : exec .gapTimerExpiry s = .next s.quiet.gapExpires := take_running hr State.gapExpires
  refine ⟨take_running hr fun u => u.dropFrame .break, fun rx => ⟨?_, ?_, ?_⟩,
    fun bs rx => ⟨?_, ?_, fun one long => ?_, fun one fits => ?_, fun two short => ?_, fun two full bad => ?_⟩⟩
  · rw [gap, State.gapExpires, State.quiet_link, rx]
  · rw [exec_character hr, takeCharacter_hunting (s := s.quiet) rx (.inl rfl)]
  · rw [exec_character hr]
    split
    · next start =>
      subst start
      exact congrArg _ (takeCharacter_start (s := s.quiet) rx z)
    · next other => rw [takeCharacter_hunting (s := s.quiet) rx (.inr other)]
  · rw [gap, gapExpires_assembling (s := s.quiet) rx]
    rfl
  · rw [exec_character hr, takeCharacter_parity (s := s.quiet) rx]
    rfl
  all_goals
    rw [exec_character hr, takeCharacter_assembling (s := s.quiet) rx]
    have longer : (bs ++ [v]).length = bs.length + 1 := List.length_append
  · have second : u8 (bs ++ [v]) 1 = v.toNat := one ▸ u8_append_length bs v
    rw [assemble_long _ _ (by omega) (by omega)]
    rfl
  · have second : u8 (bs ++ [v]) 1 = v.toNat := one ▸ u8_append_length bs v
    rw [assemble_on _ _ (by omega) (by omega)]
    rfl
  · have second : u8 (bs ++ [v]) 1 = u8 bs 1 := u8_append two [v]
    rw [assemble_on _ _ (by omega) (by omega)]
    rfl
  · have second : u8 (bs ++ [v]) 1 = u8 bs 1 := u8_append two [v]
    rw [assemble_full _ _ (by omega), if_neg bad]
    rfl

/-! ## The characters of a frame (R164, R166) -/

theorem feed_cons {z : Nat} {v : Byte} {s t : State} (h : exec (.characterReceived v true z) s = .next t)
    (r : List Byte) : feed z (v :: r) s = feed z r t := by
  simp only [feed, h]

/-- Under the reset pin no character is taken (R183). -/
theorem feed_underReset {s : State} (h : s.resetHeld = true) (z : Nat) (v : Byte) (r : List Byte) :
    feed z (v :: r) s = .next s.quiet := by
  have ignored (u : State) (hu : u.resetHeld = true) (v : Byte) : exec (.characterReceived v true z) u = .next u.quiet :=
    take_held hu fun u => u.takeCharacter v true z
  induction r generalizing s v with
  | nil => rw [feed_cons (ignored s h v)]; rfl
  | cons w r ih => rw [feed_cons (ignored s h v), ih (s := s.quiet) h]; rfl

/-- The state with the receiver assembling these bytes. -/
def State.assembling (s : State) (bs : List Byte) : State :=
  s.setLink { s.link with rx := .assembling bs }

/-- The rest of a frame whose first bytes are taken completes it: until the last character the receiver only goes on, since every
part of the frame that holds its length byte is shorter than that says. -/
theorem feed_rest {s : State} (hr : s.resetHeld = false) {frame : List Byte} (full : frame.length = u8 frame 1 + 6)
    (fits : u8 frame 1 ≤ 56) (sum : byteSum frame = 0) (z : Nat) (r : List Byte) :
    ∀ (bs : List Byte) (v : Byte), 0 < bs.length → bs ++ v :: r = frame → feed z (v :: r) (s.quiet.assembling bs) =
      .next ((s.quiet.setLink { s.link with rx := .hunting }).frameComplete (frameOf frame) z) := by
  have taken (bs : List Byte) (v : Byte) : exec (.characterReceived v true z) (s.quiet.assembling bs) =
      .next ((s.quiet.assembling bs).assemble (bs ++ [v]) z) :=
    (exec_character (s := s.quiet.assembling bs) hr v true z).trans
      (congrArg _ (takeCharacter_assembling (s := s.quiet.assembling bs) rfl v z))
  induction r with
  | nil =>
    rintro bs v - rfl
    rw [feed_cons (taken bs v), assemble_full _ _ full, if_pos sum]
    rfl
  | cons w r ih =>
    rintro bs v begun parts
    have rest : (bs ++ [v]) ++ w :: r = frame := by rw [List.append_assoc]; exact parts
    have longer : (bs ++ [v]).length = bs.length + 1 := List.length_append
    have shorter : (bs ++ [v]).length + (r.length + 1) = frame.length := by
      rw [← rest, List.length_append (as := bs ++ [v]), List.length_cons]
    have second : u8 frame 1 = u8 (bs ++ [v]) 1 := rest ▸ u8_append (by omega) _
    rw [feed_cons (taken bs v), assemble_on _ _ (by omega) (by omega)]
    exact ih (bs ++ [v]) w (by omega) rest

/-- The characters of a frame, to a hunting receiver, are the arrival of the frame. -/
theorem feed_frame {s : State} (rx : s.link.rx = .hunting) (kind tag flags : Byte) {p : List Byte} (hp : p.length ≤ 56)
    (z : Nat) : feed z (frameBytes kind tag flags p) s = s.take fun u =>
      u.requestArrives { kind := kind, body := { tag := tag, flags := flags, payload := p } } z := by
  cases hr : s.resetHeld with
  | true => exact (feed_underReset hr z _ _).trans (take_held hr _).symm
  | false =>
    have first : exec (.characterReceived startByte true z) s = .next (s.quiet.assembling [startByte]) :=
      (exec_character hr startByte true z).trans (congrArg _ (takeCharacter_start (s := s.quiet) rx z))
    have second := frameBytes_u8_one kind tag flags hp
    have hunting : s.quiet.setLink { s.link with rx := .hunting } = s.quiet := by
      rw [← rx]
      rfl
    rw [take_running hr, requestArrives_fits hp, ← frameOf_frameBytes kind tag flags hp]
    calc feed z (frameBytes kind tag flags p) s
        = feed z (frameBytes kind tag flags p).tail (s.quiet.assembling [startByte]) := feed_cons first _
      _ = _ := feed_rest hr (by rw [frameBytes_length, second]) (second ▸ hp) (frameBytes_sum ..) z _ [startByte] _
                (by decide) rfl
      _ = _ := by rw [hunting]

/-- The arrival of an UNKNOWN_KIND_REQUEST's frame, the Z drive at `z` where its kind would read it (log 5, log 21). -/
theorem exec_unknownKind_z {s : State} {c : Byte} {z : Nat} (hz : c = 0x1F → s.inputs.zReport = z) (b : Body) :
    exec (.unknownKindRequest c b) s = s.take fun u => u.requestArrives { kind := c, body := b } z := by
  have same : s.quiet.requestArrives { kind := c, body := b } s.inputs.zReport =
      s.quiet.requestArrives { kind := c, body := b } z := by
    by_cases hc : c = 0x1F
    · rw [hz hc]
    · exact requestArrives_z _ _ _ _ hc
  cases hr : s.resetHeld with
  | true =>
    rw [take_held hr]
    exact take_held hr fun u => u.requestArrives { kind := c, body := b } u.inputs.zReport
  | false =>
    rw [take_running hr, ← same]
    exact take_running hr fun u => u.requestArrives { kind := c, body := b } u.inputs.zReport

/-- Settles O7: fed to the receiver the characters are the arrival of the frame (`feed_frame`), and so is the request command. -/
theorem charactersOfAFrameAreTheRequest : Obligations.CharactersOfAFrameAreTheRequest := by
  unfold Obligations.CharactersOfAFrameAreTheRequest
  refine ⟨fun kind b3 b4 p => ⟨_, rfl, ?_⟩, fun s tag flags p z rx hp => ⟨fun k => ?_, fun kind hz => ?_⟩⟩
  · rw [← byteSum_toNat, frameBytes_sum]
    rfl
  · rw [feed_frame rx k.code tag flags hp, exec_request_z]
    rfl
  · rw [feed_frame rx kind tag flags hp, exec_unknownKind_z hz]

end Sys2Proof.Machine
end

section
/-! What leaves the decoder's state and the waiting reply alone: every operation of the cell and every answer of a block that
starts no clearing (R170, R171). -/

namespace Sys2Proof.Machine

/-- The decoder's state and the waiting reply of one state are those of another. A change of anything else keeps this by
definition: the hypothesis itself is then the proof. -/
def SameDecoding (s u : State) : Prop :=
  u.decoder = s.decoder ∧ u.waiting = s.waiting

namespace SameDecoding

variable {s u v : State}

theorem refl (s : State) : SameDecoding s s :=
  ⟨rfl, rfl⟩

theorem change (h : SameDecoding s u) (decoder : v.decoder = u.decoder) (waiting : v.waiting = u.waiting) :
    SameDecoding s v :=
  ⟨decoder.trans h.1, waiting.trans h.2⟩

/-! ## Drive ports, jobs and lanes -/

theorem issue {ts : List Target} (h : SameDecoding s u) : SameDecoding s (u.issue ts) := by
  obtain ⟨g, hg, -⟩ := issue_frame u ts
  rw [hg]
  exact h

theorem issueHome {axes : List Axis} (h : SameDecoding s u) : SameDecoding s (u.issueHome axes) := by
  obtain ⟨g, hg, -⟩ := issueHome_frame u axes
  rw [hg]
  exact h

theorem stop {axes : List Axis} (h : SameDecoding s u) : SameDecoding s (u.stop axes) := by
  obtain ⟨g, hg, -⟩ := stop_frame u axes
  rw [hg]
  exact h

theorem stopAll (h : SameDecoding s u) : SameDecoding s u.stopAll :=
  h.stop.change rfl rfl

theorem modifyJob (h : SameDecoding s u) (slot : Nat) (f : Job → Job) : SameDecoding s (u.modifyJob slot f) := by
  rw [modifyJob_frame]
  exact h

theorem onRecordJob (h : SameDecoding s u) (f : Job → Job) : SameDecoding s (u.onRecordJob f) := by
  rw [onRecordJob_frame]
  exact h

theorem finishJob (h : SameDecoding s u) (slot : Nat) (st : JobState) (r : Option Reason) :
    SameDecoding s (u.finishJob slot st r) := by
  rw [finishJob_frame]
  exact h

theorem closeBook (l : LaneNo) (h : SameDecoding s u) : SameDecoding s (u.closeBook l) := by
  obtain ⟨v, q, hv⟩ := closeBook_frame u l
  rw [hv]
  exact h

theorem closeTest (l : LaneNo) (h : SameDecoding s u) : SameDecoding s (u.closeTest l) := by
  obtain ⟨v, q, hv⟩ := closeTest_frame u l
  rw [hv]
  exact h

/-! ## The halt and faults -/

theorem halt (h : SameDecoding s u) : SameDecoding s u.halt := by
  unfold State.halt
  split
  · exact h
  · exact h.stopAll.change rfl rfl

theorem firstFault (k : FaultKind) (f : FaultState) (h : SameDecoding s u) : SameDecoding s (u.firstFault k f) :=
  h.stopAll.change rfl rfl

theorem furtherFault (e : FaultEntry) (h : SameDecoding s u) : SameDecoding s (u.furtherFault e) :=
  (h.stop (axes := allAxes)).change rfl rfl

theorem boardLost (h : SameDecoding s u) : SameDecoding s u.boardLost :=
  h.onRecordJob Job.lose

theorem takeFault (h : SameDecoding s u) (k : FaultKind) : SameDecoding s (u.takeFault k) := by
  have noted : SameDecoding s (match u.fault.entry, u.gantry.state.faultState with
      | none, some f => u.firstFault k f
      | none, none => u
      | some e, _ => u.furtherFault e) := by
    split
    · exact h.firstFault ..
    · exact h
    · exact h.furtherFault _
  unfold State.takeFault
  dsimp only
  split
  · exact noted.boardLost
  · exact noted

theorem faultsFound (h : SameDecoding s u) : SameDecoding s u.faultsFound := by
  refine List.foldlRecOn (motive := SameDecoding s) _ _ h fun v hv k _ => ?_
  unfold State.inputFault
  split
  · exact hv.takeFault k
  · exact hv

/-! ## The phases -/

theorem startGrip (h : SameDecoding s u) : SameDecoding s u.startGrip := by
  unfold State.startGrip
  split <;> exact h

theorem enterGrip (t : Transfer) (h : SameDecoding s u) : SameDecoding s (u.enterGrip t) :=
  startGrip (h.change rfl rfl)

theorem enterRetreat (h : SameDecoding s u) : SameDecoding s u.enterRetreat :=
  issue (stop h)

theorem abandonFor (h : SameDecoding s u) (slot tag : Nat) : SameDecoding s (u.abandonFor slot tag) := by
  unfold State.abandonFor State.abandon
  repeat' split
  case h_1 => exact h.enterRetreat
  all_goals exact h

theorem contactEvent (z : Nat) (h : SameDecoding s u) : SameDecoding s (u.contactEvent z) := by
  unfold State.contactEvent
  dsimp only
  repeat' split
  · exact h
  · exact enterGrip _ (stop h)
  · exact enterRetreat (stop h)

theorem issueSearch (h : SameDecoding s u) (z : Nat) : SameDecoding s (u.issueSearch z) := by
  unfold State.issueSearch
  dsimp only
  repeat' split
  · exact h
  · exact contactEvent z (issue h)
  · exact issue h

theorem resumeWork (h : SameDecoding s u) (r : Remembered) (z : Nat) : SameDecoding s (u.resumeWork r z) := by
  have record {v : State} (hv : SameDecoding s v) : SameDecoding s (v.resumeRecord z) := by
    unfold State.resumeRecord State.resumePhase
    split
    · exact hv
    · split
      case h_2 => exact hv.issueSearch z
      case h_3 => exact hv.startGrip
      case h_7 | h_12 => exact hv
      case h_10 => exact issue (stop hv)
      all_goals exact issue hv
  cases r with
  | homing => exact issueHome h
  | idle => exact h
  | cycling | aborting => exact record h

theorem closeRecord (h : SameDecoding s u) (t : Transfer) : SameDecoding s (u.closeRecord t) := by
  have resolved : SameDecoding s (u.resolveCancel t) := by
    unfold State.resolveCancel
    repeat' split
    case h_2.isTrue => exact h.finishJob ..
    all_goals exact h
  exact resolved.closeTest t.lane

/-! ## Selection -/

theorem scan (h : SameDecoding s u) : SameDecoding s u.scan.state := by
  obtain ⟨store, notices, hu, -⟩ := (scan_sound u).cell
  rw [hu]
  exact h

theorem attempts (fuel : Nat) (h : SameDecoding s u) : SameDecoding s (State.attempts fuel u) := by
  induction fuel generalizing u with
  | zero => exact h
  | succ fuel ih =>
    simp only [State.attempts]
    repeat' split
    · exact faultsFound (issue h.scan)
    · exact ih h.scan
    · exact h.scan

theorem reevaluate (h : SameDecoding s u) : SameDecoding s u.reevaluate := by
  unfold State.reevaluate
  split
  · exact h.attempts _
  · exact h

/-! ## The answers of the blocks -/

theorem setDryRun (b : Bool) (h : SameDecoding s u) : SameDecoding s (u.setDryRun b) := by
  unfold State.setDryRun State.enterDryRun
  dsimp only
  repeat' split
  all_goals exact h

theorem answerSetModes (f : Frame) (h : SameDecoding s u) : SameDecoding s (answerSetModes f u).state := by
  unfold Machine.answerSetModes
  repeat' split
  case h_2.isFalse => exact setDryRun _ h
  all_goals exact h

theorem travelChanged (z : Nat) (h : SameDecoding s u) : SameDecoding s (u.travelChanged z) := by
  unfold State.travelChanged
  repeat' split
  all_goals exact h

theorem answerSetTravel (f : Frame) (h : SameDecoding s u) : SameDecoding s (answerSetTravel f u).state := by
  unfold Machine.answerSetTravel
  dsimp only
  repeat' split
  case isFalse.isFalse.isFalse.isFalse.isFalse.isFalse => exact travelChanged _ h
  all_goals exact h

theorem answerAmendJob (f : Frame) (h : SameDecoding s u) : SameDecoding s (answerAmendJob f u).state := by
  have amended (e : Located) (a : Amendment) : SameDecoding s (u.amended e a) := by
    unfold State.amended
    dsimp only
    split
    · exact ((h.modifyJob ..).abandonFor ..).finishJob ..
    · exact h.modifyJob ..
  unfold Machine.answerAmendJob
  repeat' split
  case h_2.isFalse.isFalse.isFalse.isFalse => exact amended _ _
  all_goals exact h

theorem answerCancelJob (f : Frame) (h : SameDecoding s u) : SameDecoding s (answerCancelJob f u).state := by
  unfold Machine.answerCancelJob
  repeat' split
  case h_2.isFalse.isFalse.isTrue => exact h.modifyJob ..
  case h_2.isFalse.isFalse.isFalse => exact (h.abandonFor ..).finishJob ..
  all_goals exact h

theorem answerParkLane (f : Frame) (h : SameDecoding s u) : SameDecoding s (answerParkLane f u).state := by
  unfold Machine.answerParkLane State.parkLane
  dsimp only
  repeat' split
  case h_3.isFalse.isFalse => exact closeBook _ h
  all_goals exact h

theorem answerCloseBook (f : Frame) (h : SameDecoding s u) : SameDecoding s (answerCloseBook f u).state := by
  unfold Machine.answerCloseBook State.requestClose
  repeat' split
  case h_1.isFalse => exact h.closeBook _
  all_goals exact h

theorem answerHome (f : Frame) (h : SameDecoding s u) : SameDecoding s (answerHome f u).state := by
  unfold Machine.answerHome
  repeat' split
  case isTrue.isFalse => exact faultsFound (issueHome h)
  all_goals exact h

theorem answerResume (f : Frame) (z : Nat) (h : SameDecoding s u) : SameDecoding s (answerResume f z u).state := by
  unfold Machine.answerResume
  repeat' split
  · exact h
  · exact h
  · exact h.resumeWork _ z

theorem answerAbort (f : Frame) (h : SameDecoding s u) : SameDecoding s (answerAbort f u).state := by
  have transfer (t : Transfer) : SameDecoding s (u.abortTransfer t).state := by
    unfold State.abortTransfer
    split
    case h_1 | h_2 | h_3 => exact h.enterRetreat
    case h_4 | h_5 | h_6 => exact issue (stop h)
    all_goals exact h
  unfold Machine.answerAbort
  split
  case h_1 =>
    split
    · exact transfer _
    · exact h
  all_goals exact h

theorem answerReleaseHeld (f : Frame) (h : SameDecoding s u) : SameDecoding s (answerReleaseHeld f u).state := by
  unfold Machine.answerReleaseHeld
  repeat' split
  case h_1.isTrue | h_2.isTrue => exact h.boardLost
  all_goals exact h

theorem answerClearFault (f : Frame) (h : SameDecoding s u) : SameDecoding s (answerClearFault f u).state := by
  have settled : SameDecoding s u.settleInFlight := by
    unfold State.settleInFlight
    repeat' split
    case h_2.isTrue => exact h.onRecordJob Job.lose
    all_goals exact h
  have record : SameDecoding s u.settleRecord := by
    unfold State.settleRecord
    split
    · exact h
    · exact settled.closeRecord _
  unfold Machine.answerClearFault
  repeat' split
  case isFalse.isFalse.isFalse => exact record
  all_goals exact h

/-- Only PARTITION STORE and RESTART touch the decoder. -/
theorem answerOf {k : RequestKind} (partition : k ≠ .partitionStore) (restart : k ≠ .restart) (f : Frame) (z : Nat)
    (h : SameDecoding s u) : SameDecoding s (answerOf k f z u).state := by
  cases k
  case partitionStore => exact absurd rfl partition
  case restart => exact absurd rfl restart
  case setModes => exact h.answerSetModes f
  case setTravel => exact h.answerSetTravel f
  case amendJob => exact h.answerAmendJob f
  case cancelJob => exact h.answerCancelJob f
  case home => exact h.answerHome f
  case halt => exact h.halt
  case resume => exact h.answerResume f z
  case abort => exact h.answerAbort f
  case clearFault => exact h.answerClearFault f
  case releaseHeld => exact h.answerReleaseHeld f
  case parkLane => exact h.answerParkLane f
  case closeBook => exact h.answerCloseBook f
  case queryStatus | readFault | readConfig | readTypes | listJobs | readStacks | run | hold => exact h
  case defineType | dropType | setTypeCursor | enqueueJob | readJob | setListCursor | setStack | loadStack | unloadStack |
      setLane | unparkLane | readLane =>
    simp only [Machine.answerOf, answerDefineType, answerDropType, answerSetTypeCursor, answerEnqueueJob, answerReadJob,
      answerSetListCursor, answerSetStack, answerLoadStack, answerUnloadStack, answerSetLane, answerUnparkLane,
      State.unparkLane, answerReadLane]
    repeat' split
    all_goals exact h

end SameDecoding

end Sys2Proof.Machine
end

section
/-! The reply to a request, its summary, and the value codes (R164, R170, R172, R173). -/

namespace Sys2Proof.Machine

/-! ## The reply (R170, R172) -/

/-- Only an accepted PARTITION STORE or RESTART has its reply wait for a clearing (R171). -/
theorem answerOf_later {k : RequestKind} (partition : k ≠ .partitionStore) (restart : k ≠ .restart) (f : Frame) (z : Nat)
    (s : State) : (answerOf k f z s).later = false := by
  cases k
  case partitionStore => exact absurd rfl partition
  case restart => exact absurd rfl restart
  case queryStatus | readFault | readConfig | readTypes | listJobs | readStacks | run | hold | halt => rfl
  case parkLane | unparkLane | closeBook =>
    simp only [answerOf, answerParkLane, State.parkLane, answerUnparkLane, State.unparkLane, answerCloseBook,
      State.requestClose]
    repeat' split
    all_goals rfl
  case home | resume | abort | clearFault | releaseHeld =>
    simp only [answerOf, answerHome, answerResume, answerAbort, State.abortTransfer, answerClearFault, answerReleaseHeld]
    repeat' split
    all_goals rfl
  case defineType | dropType | setTypeCursor | enqueueJob | amendJob | cancelJob | readJob | setListCursor | setStack |
      loadStack | unloadStack | setLane | readLane | setModes | setTravel =>
    simp only [answerOf, answerDefineType, answerDropType, answerSetTypeCursor, answerEnqueueJob, answerAmendJob,
      answerCancelJob, answerReadJob, answerSetListCursor, answerSetStack, answerLoadStack, answerUnloadStack,
      answerSetLane, answerReadLane, answerSetModes, answerSetTravel]
    repeat' split
    all_goals rfl

/-- The reply placed is that of the statements, its payload left out when the result carries none (R165). -/
theorem placeReply_carried (s : State) (kind : Byte) (b : Body) (r : Result) (p : List Byte) :
    s.placeReply { kind := kind, body := b } r p = s.withReply kind b r (if r.carries then p else []) := by
  rw [← placeReply_eq_withReply _ _ _ _ _ fun empty => by rw [empty]; rfl]
  unfold State.placeReply
  cases r.carries <;> rfl

/-- A delivered answer is its reply, or its reply with a re-evaluation behind it (R99). -/
theorem deliver_cases {a : Answer} (now : a.later = false) (k : RequestKind) (b : Body) : ∃ p,
    a.deliver (frameOfRequest k b) = a.state.withReply k.code b a.result p ∨
      a.deliver (frameOfRequest k b) = (a.state.withReply k.code b a.result p).reevaluate := by
  refine ⟨if a.result.carries then a.payload else [], ?_⟩
  rw [← placeReply_carried]
  unfold Answer.deliver
  rw [now]
  cases a.wake
  · exact .inl rfl
  · exact .inr rfl

/-- The reply takes the slot; a summary clears the last link error (R169, R170). -/
theorem withReply_link (s : State) (kind : Byte) (b : Body) (r : Result) (p : List Byte) :
    (s.withReply kind b r p).link = { s.link with
      slot := some { kind := kind ||| 0x80, tag := b.tag, result := r.code,
                     payload := if b.flags.getLsbD 0 = true then p ++ s.summary else p }
      lastError := if b.flags.getLsbD 0 then .none else s.link.lastError } := by
  unfold State.withReply
  cases b.flags.getLsbD 0 <;> simp

theorem SameDecoding.withReply {s u : State} (h : SameDecoding s u) (kind : Byte) (b : Body) (r : Result)
    (p : List Byte) : SameDecoding s (u.withReply kind b r p) :=
  h

/-! ## The summary (R173) -/

theorem bits_three (a b c : Bool) :
    bits [a, b, c] = (if a then 1 else 0) + (if b then 2 else 0) + (if c then 4 else 0) := by
  simp only [bits, mul_add, mul_ite, mul_one, mul_zero, ← add_assoc]
  rfl

theorem bits_six (a b c d e f : Bool) :
    bits [a, b, c, d, e, f] = (if a then 1 else 0) + (if b then 2 else 0) + (if c then 4 else 0) +
      (if d then 8 else 0) + (if e then 16 else 0) + (if f then 32 else 0) := by
  simp only [bits, mul_add, mul_ite, mul_one, mul_zero, ← add_assoc]
  rfl

theorem byteOf_gantry (g : Gantry) : byteOf g.code =
    match g with
    | .unhomed => 0 | .homing _ => 1 | .idle => 2 | .cycling => 3 | .halted _ => 4 | .aborting => 5 | .fault => 6 := by
  cases g <;> rfl

theorem byteOf_linkError (e : LinkError) : byteOf e.code =
    match e with
    | .none => 0 | .parity => 1 | .gap => 2 | .length => 3 | .check => 4 | .break => 5 | .overrun => 6 := by
  cases e <;> rfl

/-- The phase is shown while there is a record that the gantry works on, remembers, or holds in FAULT (R152, R173). -/
theorem byteOf_shownPhase (s : State) : byteOf (phaseCode s.shownPhase) =
    match s.gantry.state, s.transfer with
    | .cycling, some t | .aborting, some t | .halted .cycling, some t | .halted .aborting, some t | .fault, some t =>
      byteOf t.phase.code
    | _, _ => 0 := by
  unfold State.shownPhase
  cases s.transfer with
  | none =>
    cases s.gantry.state with
    | halted r => cases r <;> rfl
    | _ => rfl
  | some t =>
    cases s.gantry.state with
    | halted r => cases r <;> rfl
    | _ => rfl

theorem decoderBusy_eq_false_iff (s : State) : s.decoderBusy = false ↔ s.decoder = .ready ∧ s.waiting = none := by
  simp [State.decoderBusy]

/-- The flag byte of the summary. -/
theorem summaryFlags (s : State) :
    bits [s.runMode == .run, s.inputs.safety, s.gantry.dryRun, s.fault.entry.isSome, s.notices.lost, s.decoderBusy] =
      (if s.runMode = .run then 1 else 0) + (if s.inputs.safety then 2 else 0) + (if s.gantry.dryRun then 4 else 0) +
        (if s.fault.entry = none then 0 else 8) + (if s.notices.lost then 16 else 0) +
        (if s.decoder = .ready ∧ s.waiting = none then 0 else 32) := by
  have entry : (if s.fault.entry.isSome = true then 8 else 0) = if s.fault.entry = none then 0 else 8 := by
    cases s.fault.entry <;> rfl
  have busy : (if s.decoderBusy = true then 32 else 0) = if s.decoder = .ready ∧ s.waiting = none then 0 else 32 := by
    simp only [← decoderBusy_eq_false_iff]
    cases s.decoderBusy <;> rfl
  rw [bits_six, entry, busy]
  simp only [beq_iff_eq]

/-- The summary byte of a lane. -/
theorem laneSummary_eq (s : State) (l : LaneNo) : s.laneSummary l =
    byteOf ((match (s.lane l).state with | .parked => 0 | .idle => 1 | .filling _ => 2 | .handed _ => 3) +
      (if (s.lane l).parkRequest then 4 else 0) + (if (s.lane l).stalled then 8 else 0) +
      (if s.gantry.dryRun = true ∨ s.inputs.sawReady.get l = true then 16 else 0)) := by
  have state (v : LaneState) :
      v.code = match v with | .parked => 0 | .idle => 1 | .filling _ => 2 | .handed _ => 3 := by cases v <;> rfl
  rw [State.laneSummary, bits_three, state]
  simp only [mul_add, mul_ite, mul_one, mul_zero, ← add_assoc, State.sawReady, Bool.or_eq_true]

/-- The ten bytes of R164. -/
theorem summary_eq (s : State) : s.summary =
    [(match s.gantry.state with
      | .unhomed => 0 | .homing _ => 1 | .idle => 2 | .cycling => 3 | .halted _ => 4 | .aborting => 5 | .fault => 6 : Byte),
     (match s.gantry.state, s.transfer with
      | .cycling, some t | .aborting, some t | .halted .cycling, some t | .halted .aborting, some t | .fault, some t =>
        byteOf t.phase.code
      | _, _ => 0),
     byteOf ((if s.runMode = .run then 1 else 0) + (if s.inputs.safety then 2 else 0) + (if s.gantry.dryRun then 4 else 0) +
      (if s.fault.entry = none then 0 else 8) + (if s.notices.lost then 16 else 0) +
      (if s.decoder = .ready ∧ s.waiting = none then 0 else 32))] ++
    ([LaneNo.l1, .l2, .l3, .l4].map fun l =>
      byteOf ((match (s.lane l).state with | .parked => 0 | .idle => 1 | .filling _ => 2 | .handed _ => 3) +
        (if (s.lane l).parkRequest then 4 else 0) + (if (s.lane l).stalled then 8 else 0) +
        (if s.gantry.dryRun = true ∨ s.inputs.sawReady.get l = true then 16 else 0))) ++
    le16 s.store.jobs.entries.length ++
    [(match s.link.lastError with
      | .none => 0 | .parity => 1 | .gap => 2 | .length => 3 | .check => 4 | .break => 5 | .overrun => 6 : Byte)] := by
  rw [State.summary, byteOf_gantry, byteOf_shownPhase, summaryFlags, byteOf_linkError]
  simp only [laneSummary_eq]
  rfl

/-- Settles O10: the reply is that of the owning block's answer (`deliver_cases`), which leaves link, decoder and waiting reply
alone, as does the re-evaluation behind it; the summary is `summary_eq`, and the codes are read off their tables. -/
theorem everyRequestIsAnswered : Obligations.EveryRequestIsAnswered := by
  unfold Obligations.EveryRequestIsAnswered
  refine ⟨fun k b z s h hb partition restart => ?_, summary_eq, fun n => ⟨rfl, rfl⟩, fun g => by cases g <;> rfl,
    fun m => by cases m <;> rfl, fun f => by cases f <;> rfl, fun p => by cases p <;> rfl, fun v => by cases v <;> rfl,
    fun v => by cases v <;> rfl, fun f => ⟨rfl, by cases f <;> rfl⟩, rfl, fun d => by cases d <;> rfl,
    fun v => by cases v <;> rfl, fun v => by cases v <;> rfl, fun v => by cases v <;> rfl, fun v => by cases v <;> rfl,
    fun l => ⟨rfl, by cases l <;> rfl⟩, rfl⟩
  have answered := exec_request_ready h k b hb z
  have link : (answerOf k (frameOfRequest k b) z s.quiet).state.link = s.link := answerOf_link ..
  have decoding : SameDecoding s (answerOf k (frameOfRequest k b) z s.quiet).state :=
    .answerOf partition restart _ z (.refl s)
  have now := answerOf_later partition restart (frameOfRequest k b) z s.quiet
  generalize answerOf k (frameOfRequest k b) z s.quiet = a at answered link decoding now
  obtain ⟨p, reply⟩ := deliver_cases now k b
  have kept : SameDecoding s (a.deliver (frameOfRequest k b)) ∧ (a.deliver (frameOfRequest k b)).link =
      (a.state.withReply k.code b a.result p).link := by
    rcases reply with e | e <;> rw [e]
    · exact ⟨decoding, rfl⟩
    · exact ⟨(decoding.withReply ..).reevaluate, State.reevaluate_link _⟩
  obtain ⟨⟨decoder, waiting⟩, slot⟩ := kept
  rw [withReply_link, link] at slot
  obtain ⟨⟨-, -, -, free⟩, ready⟩ := h
  exact ⟨_, _, answered, decoder.trans ready, waiting.trans free, slot, rfl, rfl, a.state, a.result, p, link, reply, rfl⟩

end Sys2Proof.Machine
end

section
/-! READ CONFIG, SET TRAVEL, and the invariants right after reset (R180 to R183). -/

namespace Sys2Proof.Machine

/-! ## READ CONFIG (R182) -/

/-- The payload of READ CONFIG. -/
def State.configFields (s : State) : List Byte :=
  s.store.partition.fields ++ s.modes.fields s.gantry.dryRun ++ s.travel.fields ++ [byteOf s.link.baud]

theorem answerReadConfig_eq (f : Frame) (s : State) : answerReadConfig f s = reading s.configFields s := rfl

theorem partitionFields_length (p : Partition) : p.fields.length = 5 := rfl

theorem modesFields_length (m : Modes) (dry : Bool) : (m.fields dry).length = 21 := by
  simp [Modes.fields]

theorem travelFields_length (t : Travel) : t.fields.length = 20 := by
  simp [Travel.fields]

theorem configFields_length (s : State) : s.configFields.length = 47 := by
  simp only [State.configFields, List.length_append, partitionFields_length, modesFields_length, travelFields_length,
    List.length_singleton]

/-- Settles O23: the payload is `State.configFields`, part after part. -/
theorem configIsReported : Obligations.ConfigIsReported := by
  unfold Obligations.ConfigIsReported
  intro b s h hb
  have answer := answerReadConfig_eq (frameOfRequest .readConfig b) s.quiet
  exact ⟨s.configFields, exec_reading h .readConfig b (congrArg List.length hb) answer, configFields_length s, rfl⟩

/-! ## The checks of SET TRAVEL (R180) -/

/-- Checks 2 and 3 of R180. -/
theorem travelOk_iff (t : Travel) : t.rangesOk = true ∧ t.pointsOk = true ↔
    t.xMin < t.xMax ∧ t.xMax ≤ 65000 ∧ t.yMin < t.yMax ∧ t.yMax ≤ 30000 ∧ t.zMin < t.zMax ∧ t.zMax ≤ 25000 ∧
      Between t.zMin t.zMax t.ztravel ∧ Between t.xMin t.xMax t.xr ∧ Between t.yMin t.yMax t.yr ∧
      Between t.zMin t.zMax t.zr := by
  simp only [Travel.rangesOk, Travel.pointsOk, Bool.and_eq_true, decide_eq_true_eq, within_iff, Between, and_assoc]

section Checks

variable (s : State) (t : Travel)

/-- Check 4 of R180. -/
theorem stacksClear_iff (z : Nat) : s.stacksClear z = true ↔ ∀ k, (s.stack k).present = true →
    (s.stack k).zf + (s.stack k).count * (s.typeEntry (s.stack k).type).thk + 1000 ≤ z := by
  simp only [State.stacksClear, List.all_eq_true, mem_allStacks, forall_const, Bool.or_eq_true, Bool.not_eq_true',
    decide_eq_true_eq, ← Bool.not_eq_true]
  exact forall_congr' fun _ => imp_iff_not_or.symm

/-- Check 5 of R180. -/
theorem lanesClear_iff (z : Nat) : s.lanesClear z = true ↔
    ∀ l, (s.lane l).configured = true → (s.lane l).cfg.zt + (s.lane l).cfg.hmax + 1000 ≤ z := by
  simp only [State.lanesClear, List.all_eq_true, mem_allLanes, forall_const, Bool.or_eq_true, Bool.not_eq_true',
    decide_eq_true_eq, ← Bool.not_eq_true]
  exact forall_congr' fun _ => imp_iff_not_or.symm

/-- Checks 4 to 6 of R180: the travel height clears stacks, lanes and reject station. -/
def State.clearedBy : Prop :=
  s.stacksClear t.ztravel = true ∧ s.lanesClear t.ztravel = true ∧ t.zr + 1000 ≤ t.ztravel

theorem not_clearedBy_iff : ¬ s.clearedBy t ↔
    (∃ k, (s.stack k).present = true ∧
      t.ztravel < (s.stack k).zf + (s.stack k).count * (s.typeEntry (s.stack k).type).thk + 1000) ∨
    (∃ l, (s.lane l).configured = true ∧ t.ztravel < (s.lane l).cfg.zt + (s.lane l).cfg.hmax + 1000) ∨
    t.ztravel < t.zr + 1000 := by
  simp only [State.clearedBy, stacksClear_iff, lanesClear_iff, not_and_or, not_forall, exists_prop, not_le]

end Checks

/-! ## The answer of SET TRAVEL (R180, R181) -/

/-- The gantry states in which SET TRAVEL is decided on its values (R180 check 1). -/
def Gantry.atRest (g : Gantry) : Prop :=
  g = .unhomed ∨ g = .idle ∨ g = .fault

/-- The effect on the gantry, field by field (R181). -/
theorem travelChanged_eq (s : State) (oldZ : Nat) : s.travelChanged oldZ = { s with
    gantry := { s.gantry with
      state := if s.gantry.state = .idle ∧ s.gantry.dryRun = false ∧ s.travel.ztravel ≠ oldZ then .unhomed
        else s.gantry.state
      head := if s.gantry.state = .idle ∧ s.gantry.dryRun = true then
          s.gantry.head.map fun h => { h with z := s.travel.ztravel }
        else s.gantry.head } } := by
  rw [State.travelChanged]
  by_cases idle : s.gantry.state = .idle
  · rw [if_pos idle]
    by_cases dry : s.gantry.dryRun = true
    · rw [if_pos dry, if_neg fun h => Bool.false_ne_true (h.2.1.symm.trans dry), if_pos ⟨idle, dry⟩]
    · rw [if_neg dry]
      by_cases same : s.travel.ztravel = oldZ
      · rw [if_pos same, if_neg fun h => h.2.2 same, if_neg fun h => dry h.2]
      · rw [if_neg same, if_pos ⟨idle, eq_false_of_ne_true dry, same⟩, if_neg fun h => dry h.2, State.setGantry]
  · rw [if_neg idle, if_neg fun h => idle h.1, if_neg fun h => idle h.1]

section Answer

variable {s : State} {f : Frame} {t : Travel}

/-- Check 1 of R180. -/
theorem answerSetTravel_moving (hg : ¬ s.gantry.state.atRest) : answerSetTravel f s = refuse .gantryState s := by
  have moving : s.gantry.state ≠ .unhomed ∧ s.gantry.state ≠ .idle ∧ s.gantry.state ≠ .fault := by
    simpa only [Gantry.atRest, not_or] using hg
  exact if_pos moving

variable (hg : s.gantry.state.atRest) (ht : t = travelOf f.body.payload)

include hg ht

/-- At rest the answer is that of the checks 2 to 6. -/
theorem answerSetTravel_atRest : answerSetTravel f s =
    if !t.rangesOk then refuse .outOfRange s
    else if !t.pointsOk then refuse .outOfRange s
    else if !s.stacksClear t.ztravel then refuse .travelConflict s
    else if !s.lanesClear t.ztravel then refuse .travelConflict s
    else if t.ztravel < t.zr + 1000 then refuse .travelConflict s
    else accept ({ s with travel := t }.travelChanged s.travel.ztravel) := by
  have still : ¬ (s.gantry.state ≠ .unhomed ∧ s.gantry.state ≠ .idle ∧ s.gantry.state ≠ .fault) := by
    simpa only [Gantry.atRest, not_and_or, not_not] using hg
  exact ht ▸ if_neg still

theorem answerSetTravel_outOfRange (bad : ¬ (t.rangesOk = true ∧ t.pointsOk = true)) :
    answerSetTravel f s = refuse .outOfRange s := by
  rw [answerSetTravel_atRest hg ht]
  cases ranges : t.rangesOk with
  | false => rfl
  | true =>
    have points : t.pointsOk = false := eq_false_of_ne_true fun points => bad ⟨ranges, points⟩
    rw [points]
    rfl

variable (ok : t.rangesOk = true ∧ t.pointsOk = true)

include ok

theorem answerSetTravel_conflict (low : ¬ s.clearedBy t) : answerSetTravel f s = refuse .travelConflict s := by
  rw [answerSetTravel_atRest hg ht, ok.1, ok.2]
  cases tops : s.stacksClear t.ztravel with
  | false => rfl
  | true =>
    cases lanes : s.lanesClear t.ztravel with
    | false => rfl
    | true => exact if_pos (not_le.1 fun station => low ⟨tops, lanes, station⟩)

theorem answerSetTravel_accepted (clear : s.clearedBy t) :
    answerSetTravel f s = accept ({ s with travel := t }.travelChanged s.travel.ztravel) := by
  obtain ⟨tops, lanes, station⟩ := clear
  rw [answerSetTravel_atRest hg ht, ok.1, ok.2, tops, lanes]
  exact if_neg (not_lt.2 station)

end Answer

/-- Settles O54: the checks in their order by the lemmas on `answerSetTravel`, the accepted gantry by
`travelChanged_eq`. -/
theorem setTravelChecksAndStores : Obligations.SetTravelChecksAndStores := by
  unfold Obligations.SetTravelChecksAndStores
  intro b s t h hb ht
  refine ⟨fun moving => ?_, fun atRest => ⟨fun bad => ?_, fun good => ?_⟩⟩
  · have notAtRest : ¬ s.gantry.state.atRest := by
      rintro (e | e | e) <;> simp [e] at moving
    exact exec_refused h .setTravel b hb (answerSetTravel_moving (s := s.quiet) notAtRest)
  · exact exec_refused h .setTravel b hb
      (answerSetTravel_outOfRange (s := s.quiet) atRest ht (mt (travelOk_iff t).1 bad))
  · have ok := (travelOk_iff t).2 good
    refine ⟨fun low => exec_refused h .setTravel b hb ?_, fun tops lanes station => exec_accepted h .setTravel b hb ?_⟩
    · exact answerSetTravel_conflict (s := s.quiet) atRest ht ok ((not_clearedBy_iff s t).2 low)
    · have clear : s.clearedBy t := ⟨(stacksClear_iff s _).2 tops, (lanesClear_iff s _).2 lanes, station⟩
      exact (answerSetTravel_accepted (s := s.quiet) atRest ht ok clear).trans (congrArg accept (travelChanged_eq ..))

/-! ## Right after reset (R183) -/

theorem reset_storeExact : State.reset.StoreExact :=
  storeExact_of_noEntries (wf_cleared .p1) rfl

theorem reset_listsExact : State.reset.ListsExact :=
  .of_parked (fun l => by cases l <;> rfl) (fun l => by cases l <;> rfl) rfl rfl

theorem reset_recordExact : State.reset.RecordExact :=
  .of_none rfl rfl trivial

theorem reset_inRanges : State.reset.InRanges where
  modes := modes_powerOn_inRange
  travel := travel_powerOn_inRange
  fifo := Nat.zero_le _
  further e he := absurd he.symm (Option.some_ne_none e)
  report := Nat.zero_le _

theorem reset_faultExact : State.reset.FaultExact :=
  ⟨nofun, nofun⟩

theorem reset_linkExact : State.reset.LinkExact where
  held := nofun
  waiting := nofun

/-- Settles O60: the power-on store and lists are empty, every lane is PARKED, no record and no fault entry stands, and the
settings are the power-on ones. -/
theorem invariantsHoldAtReset : Obligations.InvariantsHoldAtReset :=
  ⟨reset_storeExact, reset_listsExact, reset_recordExact, reset_inRanges, reset_faultExact, reset_linkExact⟩

end Sys2Proof.Machine
end

section
/-! What leaves the queue of waiting commands alone: every operation of the cell and every answer of a block (log 1). -/

namespace Sys2Proof.Machine

/-- The waiting commands are those of `q`. A change of anything else keeps this by definition: the hypothesis itself is then
the proof. -/
def State.Queues (s : State) (q : List Instr) : Prop :=
  s.pending = q

namespace State.Queues

variable {s : State} {q : List Instr}

theorem change {u : State} (h : s.Queues q) (same : u.pending = s.pending) : u.Queues q :=
  same.trans h

/-! ## Drive ports, jobs and lanes -/

theorem issue {ts : List Target} (h : s.Queues q) : (s.issue ts).Queues q := by
  obtain ⟨g, hg, -⟩ := issue_frame s ts
  rw [hg]
  exact h

theorem issueHome {axes : List Axis} (h : s.Queues q) : (s.issueHome axes).Queues q := by
  obtain ⟨g, hg, -⟩ := issueHome_frame s axes
  rw [hg]
  exact h

theorem stop {axes : List Axis} (h : s.Queues q) : (s.stop axes).Queues q := by
  obtain ⟨g, hg, -⟩ := stop_frame s axes
  rw [hg]
  exact h

theorem modifyJob {slot : Nat} {f : Job → Job} (h : s.Queues q) : (s.modifyJob slot f).Queues q := by
  rw [modifyJob_frame]
  exact h

theorem onRecordJob {f : Job → Job} (h : s.Queues q) : (s.onRecordJob f).Queues q := by
  rw [onRecordJob_frame]
  exact h

theorem finishJob {slot : Nat} {st : JobState} {r : Option Reason} (h : s.Queues q) : (s.finishJob slot st r).Queues q := by
  rw [finishJob_frame]
  exact h

theorem closeBook {l : LaneNo} (h : s.Queues q) : (s.closeBook l).Queues q := by
  obtain ⟨v, o, hv⟩ := closeBook_frame s l
  rw [hv]
  exact h

theorem place {t : Transfer} (h : s.Queues q) : (s.place t).Queues q := by
  obtain ⟨v, o, p, hv⟩ := place_frame s t
  rw [hv]
  exact h

theorem closeTest {l : LaneNo} (h : s.Queues q) : (s.closeTest l).Queues q := by
  obtain ⟨v, o, hv⟩ := closeTest_frame s l
  rw [hv]
  exact h

theorem takeOver {l : LaneNo} (h : s.Queues q) : (s.takeOver l).1.Queues q := by
  obtain ⟨v, o, hv⟩ := takeOver_frame s l
  rw [hv]
  exact h

/-! ## The halt and faults -/

theorem stopAll (h : s.Queues q) : s.stopAll.Queues q :=
  h.stop (axes := allAxes)

theorem halt (h : s.Queues q) : s.halt.Queues q := by
  unfold State.halt
  split
  · exact h
  · exact h.stopAll.change rfl

theorem boardLost (h : s.Queues q) : s.boardLost.Queues q :=
  h.onRecordJob (f := Job.lose)

theorem takeFault (k : FaultKind) (h : s.Queues q) : (s.takeFault k).Queues q := by
  have lost {u : State} (hu : u.Queues q) : (if k = .drop then u.boardLost else u).Queues q := by
    split
    · exact hu.boardLost
    · exact hu
  refine lost ?_
  split
  · exact h.stopAll.change rfl
  · exact h
  · exact (h.stop (axes := allAxes)).change rfl

theorem inputFault (k : FaultKind) (h : s.Queues q) : (s.inputFault k).Queues q := by
  unfold State.inputFault
  split
  · exact h.takeFault k
  · exact h

theorem holdLost (h : s.Queues q) : s.holdLost.Queues q := by
  unfold State.holdLost
  split
  · exact h.takeFault .drop
  · exact h

theorem faultsFound (h : s.Queues q) : s.faultsFound.Queues q :=
  List.foldlRecOn (motive := (State.Queues · q)) _ _ h fun _ hu k _ => hu.inputFault k

/-! ## The phases of a transfer -/

theorem startGrip (h : s.Queues q) : s.startGrip.Queues q := by
  unfold State.startGrip
  split <;> exact h

theorem enterGrip (t : Transfer) (h : s.Queues q) : (s.enterGrip t).Queues q :=
  startGrip (h.change rfl)

theorem enterRetreat (h : s.Queues q) : s.enterRetreat.Queues q :=
  issue (stop h)

theorem abandonFor {slot tag : Nat} (h : s.Queues q) : (s.abandonFor slot tag).Queues q := by
  unfold State.abandonFor State.abandon
  repeat' split
  case h_1 => exact h.enterRetreat
  all_goals exact h

theorem contactEvent (z : Nat) (h : s.Queues q) : (s.contactEvent z).Queues q := by
  unfold State.contactEvent
  dsimp only
  repeat' split
  · exact h
  · exact enterGrip _ (stop h)
  · exact enterRetreat (stop h)

theorem issueSearch (z : Nat) (h : s.Queues q) : (s.issueSearch z).Queues q := by
  unfold State.issueSearch
  dsimp only
  repeat' split
  · exact h
  · exact contactEvent z (issue h)
  · exact issue h

theorem contactRises (z : Nat) (h : s.Queues q) : (s.contactRises z).Queues q := by
  unfold State.contactRises
  split
  · exact h.contactEvent z
  · exact h

theorem endDescent {t : Transfer} (h : s.Queues q) : (s.endDescent t).Queues q := by
  unfold State.endDescent
  repeat' split
  · exact contactEvent _ h
  · exact h.contactEvent _
  · exact enterRetreat h

theorem enterLift (h : s.Queues q) : s.enterLift.Queues q := by
  unfold State.enterLift
  dsimp only
  split
  · exact holdLost (issue h)
  · exact issue h

theorem gripSettles (level : Bool) (h : s.Queues q) : (s.gripSettles level).Queues q := by
  have expiry (t : Transfer) : (s.gripExpiry t level).Queues q := by
    unfold State.gripExpiry
    repeat' split
    · exact enterLift (onRecordJob (f := Job.gripped) h)
    · exact startGrip h
    · exact enterRetreat h
  unfold State.gripSettles
  repeat' split
  · exact expiry _
  all_goals exact h

theorem countPlaced {t : Transfer} (h : s.Queues q) : (s.countPlaced t).Queues q := by
  obtain ⟨store, notices, hs, -⟩ := countPlaced_frame s t
  rw [hs]
  exact h

theorem releaseSettles (h : s.Queues q) : s.releaseSettles.Queues q := by
  have expiry (t : Transfer) : (s.releaseExpiry t).Queues q := issue (place (countPlaced h))
  unfold State.releaseSettles
  repeat' split
  · exact expiry _
  · exact h
  · exact issue (onRecordJob (f := Job.reject) h)
  all_goals exact h

/-! ## The end of a transfer and selection -/

theorem closeRecord {t : Transfer} (h : s.Queues q) : (s.closeRecord t).Queues q := by
  have resolved : (s.resolveCancel t).Queues q := by
    rw [resolveCancel_frame]
    exact h
  exact resolved.closeTest

theorem attempts (fuel : Nat) (h : s.Queues q) : (State.attempts fuel s).Queues q := by
  induction fuel generalizing s with
  | zero => exact h
  | succ fuel ih =>
    have scanned : s.scan.state.Queues q := by
      obtain ⟨store, notices, hu, -⟩ := (scan_sound s).cell
      rw [hu]
      exact h
    simp only [State.attempts]
    repeat' split
    · exact faultsFound (issue scanned)
    · exact ih scanned
    · exact scanned

theorem reevaluate (h : s.Queues q) : s.reevaluate.Queues q := by
  unfold State.reevaluate
  split
  · exact h.attempts _
  · exact h

/-! ## The completion of a move -/

theorem ended {t : Transfer} (h : s.Queues q) : (s.endTransfer t).reevaluate.Queues q :=
  reevaluate h.closeRecord

theorem completePhase {t : Transfer} (h : s.Queues q) : (s.completePhase t).Queues q := by
  unfold State.completePhase
  split
  case h_1 => exact issueSearch _ h
  case h_2 | h_4 | h_5 => exact issue h
  case h_3 => exact h.endDescent
  case h_7 | h_8 => exact h.ended
  all_goals exact h

theorem completePutDown {t : Transfer} (h : s.Queues q) : (s.completePutDown t).Queues q := by
  unfold State.completePutDown
  split
  case h_1 | h_2 => exact issue h
  case h_4 => exact h.ended
  all_goals exact h

theorem completeMove (h : s.Queues q) : s.completeMove.Queues q := by
  unfold State.completeMove
  dsimp only
  split
  case h_1 => exact issueHome h
  case h_2 => exact issue h
  case h_3 => exact reevaluate h
  case h_4 => exact completePhase h
  case h_5 => exact completePutDown h
  all_goals exact h

theorem axisReported (a : Axis) (h : s.Queues q) : (s.axisReported a).Queues q := by
  unfold State.axisReported
  repeat' split
  · exact h.completeMove
  all_goals exact h

/-! ## The answers of the blocks -/

theorem answerSetModes (f : Frame) (h : s.Queues q) : (answerSetModes f s).state.Queues q := by
  have dryRun {u : State} (b : Bool) (hu : u.Queues q) : (u.setDryRun b).Queues q := by
    unfold State.setDryRun State.enterDryRun
    dsimp only
    repeat' split
    all_goals exact hu
  unfold Machine.answerSetModes
  repeat' split
  case h_2.isFalse => exact dryRun _ h
  all_goals exact h

theorem answerSetTravel (f : Frame) (h : s.Queues q) : (answerSetTravel f s).state.Queues q := by
  have changed {u : State} (z : Nat) (hu : u.Queues q) : (u.travelChanged z).Queues q := by
    unfold State.travelChanged
    repeat' split
    all_goals exact hu
  unfold Machine.answerSetTravel
  dsimp only
  repeat' split
  case isFalse.isFalse.isFalse.isFalse.isFalse.isFalse => exact changed _ h
  all_goals exact h

theorem answerRestart (f : Frame) (h : s.Queues q) : (answerRestart f s).state.Queues q := by
  have discarded : s.discardRecord.Queues q := by
    unfold State.discardRecord
    split <;> exact h
  unfold Machine.answerRestart
  repeat' split
  · exact h
  · exact h
  · exact discarded.change rfl

theorem answerAmendJob (f : Frame) (h : s.Queues q) : (answerAmendJob f s).state.Queues q := by
  have amended (e : Located) (a : Amendment) : (s.amended e a).Queues q := by
    unfold State.amended
    dsimp only
    split
    · exact h.modifyJob.abandonFor.finishJob
    · exact h.modifyJob
  unfold Machine.answerAmendJob
  repeat' split
  case h_2.isFalse.isFalse.isFalse.isFalse => exact amended _ _
  all_goals exact h

theorem answerCancelJob (f : Frame) (h : s.Queues q) : (answerCancelJob f s).state.Queues q := by
  unfold Machine.answerCancelJob
  repeat' split
  case h_2.isFalse.isFalse.isTrue => exact h.modifyJob
  case h_2.isFalse.isFalse.isFalse => exact h.abandonFor.finishJob
  all_goals exact h

theorem answerParkLane (f : Frame) (h : s.Queues q) : (answerParkLane f s).state.Queues q := by
  unfold Machine.answerParkLane State.parkLane
  dsimp only
  repeat' split
  case h_3.isFalse.isFalse => exact closeBook h
  all_goals exact h

theorem answerCloseBook (f : Frame) (h : s.Queues q) : (answerCloseBook f s).state.Queues q := by
  unfold Machine.answerCloseBook State.requestClose
  repeat' split
  case h_1.isFalse => exact h.closeBook
  all_goals exact h

theorem answerHome (f : Frame) (h : s.Queues q) : (answerHome f s).state.Queues q := by
  unfold Machine.answerHome
  repeat' split
  case isTrue.isFalse => exact faultsFound (issueHome h)
  all_goals exact h

theorem resumePhase {t : Transfer} (z : Nat) (h : s.Queues q) : (s.resumePhase t z).Queues q := by
  unfold State.resumePhase
  split
  case h_2 => exact h.issueSearch z
  case h_3 => exact h.startGrip
  case h_7 | h_12 => exact h
  case h_10 => exact issue (stop h)
  all_goals exact issue h

theorem answerResume (f : Frame) (z : Nat) (h : s.Queues q) : (answerResume f z s).state.Queues q := by
  have record {u : State} (hu : u.Queues q) : (u.resumeRecord z).Queues q := by
    unfold State.resumeRecord
    split
    · exact hu
    · exact hu.resumePhase z
  have work (r : Remembered) : (s.resumeWork r z).Queues q := by
    cases r with
    | homing => exact issueHome h
    | idle => exact h
    | cycling | aborting => exact record h
  unfold Machine.answerResume
  repeat' split
  · exact h
  · exact h
  · exact work _

theorem answerAbort (f : Frame) (h : s.Queues q) : (answerAbort f s).state.Queues q := by
  have transfer (t : Transfer) : (s.abortTransfer t).state.Queues q := by
    unfold State.abortTransfer
    split
    case h_1 | h_2 | h_3 => exact h.enterRetreat
    case h_4 | h_5 | h_6 => exact issue (stop h)
    all_goals exact h
  unfold Machine.answerAbort
  split
  case h_1 =>
    split
    · exact transfer _
    · exact h
  all_goals exact h

theorem answerReleaseHeld (f : Frame) (h : s.Queues q) : (answerReleaseHeld f s).state.Queues q := by
  unfold Machine.answerReleaseHeld
  repeat' split
  case h_1.isTrue | h_2.isTrue => exact h.boardLost
  all_goals exact h

theorem answerClearFault (f : Frame) (h : s.Queues q) : (answerClearFault f s).state.Queues q := by
  have settled : s.settleInFlight.Queues q := by
    rw [settleInFlight_frame]
    exact h
  have record : s.settleRecord.Queues q := by
    unfold State.settleRecord
    split
    · exact h
    · exact settled.closeRecord
  unfold Machine.answerClearFault
  repeat' split
  case isFalse.isFalse.isFalse => exact record
  all_goals exact h

/-- No answer of a block touches the queue. -/
theorem answerOf (k : RequestKind) (f : Frame) (z : Nat) (h : s.Queues q) : (answerOf k f z s).state.Queues q := by
  cases k
  case setModes => exact h.answerSetModes f
  case setTravel => exact h.answerSetTravel f
  case restart => exact h.answerRestart f
  case amendJob => exact h.answerAmendJob f
  case cancelJob => exact h.answerCancelJob f
  case parkLane => exact h.answerParkLane f
  case closeBook => exact h.answerCloseBook f
  case home => exact h.answerHome f
  case halt => exact h.halt
  case resume => exact h.answerResume f z
  case abort => exact h.answerAbort f
  case releaseHeld => exact h.answerReleaseHeld f
  case clearFault => exact h.answerClearFault f
  case queryStatus | readFault | readConfig | readTypes | listJobs | readStacks | run | hold => exact h
  case partitionStore | defineType | dropType | setTypeCursor | enqueueJob | readJob | setListCursor | setStack | loadStack |
      unloadStack | setLane | unparkLane | readLane =>
    simp only [Machine.answerOf, answerPartitionStore, answerDefineType, answerDropType, answerSetTypeCursor,
      answerEnqueueJob, answerReadJob, answerSetListCursor, answerSetStack, answerLoadStack, answerUnloadStack,
      answerSetLane, answerUnparkLane, State.unparkLane, answerReadLane]
    repeat' split
    all_goals exact h

end State.Queues

end Sys2Proof.Machine
end

section
/-! The queue through every command, and the step that takes the command at its front (log 1). -/

namespace Sys2Proof.Machine

/-! ## A command waits -/

theorem step_front {c : Instr} {q : List Instr} {s : State} (h : s.pending = c :: q) :
    step s = exec c (s.withPending q) := by
  rw [step, h]

/-- Settles O1: `step_front` is the step's second case. -/
theorem stepTakesTheFrontCommand : Obligations.StepTakesTheFrontCommand :=
  fun _ _ _ => step_front

namespace State.Queues

variable {s : State} {q : List Instr}

/-! ## The decoder, the receiver and the clearing -/

theorem placeReply {f : Frame} {r : Result} {p : List Byte} (h : s.Queues q) : (s.placeReply f r p).Queues q := by
  unfold State.placeReply
  dsimp only
  split <;> exact h

theorem examine (f : Frame) (z : Nat) (h : s.Queues q) : (s.examine f z).Queues q := by
  have deliver {a : Answer} (ha : a.state.Queues q) : (a.deliver f).Queues q := by
    unfold Answer.deliver
    dsimp only
    repeat' split
    · exact ha
    · exact ha.placeReply.reevaluate
    · exact ha.placeReply
  unfold State.examine
  repeat' split
  · exact h.placeReply
  · exact h.placeReply
  · exact h.placeReply
  · exact deliver (h.answerOf _ f z)

theorem takeHeld (z : Nat) (h : s.Queues q) : (s.takeHeld z).Queues q := by
  unfold State.takeHeld
  split
  · exact examine _ z h
  · exact h

theorem frameComplete (f : Frame) (z : Nat) (h : s.Queues q) : (s.frameComplete f z).Queues q := by
  unfold State.frameComplete
  split
  · exact h
  · exact takeHeld z h

theorem requestArrives (f : Frame) (z : Nat) (h : s.Queues q) : (s.requestArrives f z).Queues q := by
  unfold State.requestArrives
  split
  · exact h
  · exact h.frameComplete f z

theorem takeCharacter (v : Byte) (ok : Bool) (z : Nat) (h : s.Queues q) : (s.takeCharacter v ok z).Queues q := by
  unfold State.takeCharacter State.assemble
  repeat' split
  case h_2.isTrue.isFalse.isTrue.isTrue => exact frameComplete _ z h
  all_goals exact h

theorem gapExpires (h : s.Queues q) : s.gapExpires.Queues q := by
  unfold State.gapExpires
  split <;> exact h

theorem clearingEnds (h : s.Queues q) : s.clearingEnds.Queues q := by
  have reply {u : State} (f : Frame) (p : List Byte) (hu : u.Queues q) : (u.clearingReply f p).Queues q := by
    unfold State.clearingReply
    split
    · exact placeReply hu
    · exact hu
  unfold State.clearingEnds
  split
  case h_2 | h_3 => exact reply _ _ h
  all_goals exact h

theorem placeWaiting (h : s.Queues q) : s.placeWaiting.Queues q := by
  unfold State.placeWaiting
  split
  · exact placeReply h
  · exact h

theorem startFrame (z : Nat) (h : s.Queues q) : (s.startFrame z).Queues q := by
  unfold State.startFrame State.sendNext
  split
  · split
    · exact takeHeld z h
    · repeat' split
      all_goals exact h
  · exact h

/-! ## The cell's events -/

theorem inPosition (a : Axis) (stale : Bool) (h : s.Queues q) : (s.inPosition a stale).Queues q := by
  unfold State.inPosition
  split
  · exact h
  · exact h.axisReported a

theorem homedReport (a : Axis) (stale : Bool) (h : s.Queues q) : (s.homedReport a stale).Queues q := by
  unfold State.homedReport
  split
  · exact h
  · exact h.axisReported a

theorem dryMoveEnds (h : s.Queues q) : s.dryMoveEnds.Queues q := by
  unfold State.dryMoveEnds
  split
  · exact completeMove h
  all_goals exact h

theorem sawRises (h : s.Queues q) : s.sawRises.Queues q := by
  unfold State.sawRises
  split
  · exact h
  · exact h.reevaluate

theorem takeOverEvent {l : LaneNo} (h : s.Queues q) : (s.takeOverEvent l).Queues q := by
  unfold State.takeOverEvent
  split
  · exact h.takeOver.reevaluate
  · exact h.takeOver

theorem taken (l : LaneNo) (h : s.Queues q) : (s.taken l).Queues q := by
  unfold State.taken
  repeat' split
  · exact h.takeOverEvent
  all_goals exact h

theorem laneTimerExpires (l : LaneNo) (h : s.Queues q) : (s.laneTimerExpires l).Queues q := by
  unfold State.laneTimerExpires
  repeat' split
  · exact h
  · exact h.takeOverEvent
  · exact h

theorem bookWaitExpires (l : LaneNo) (h : s.Queues q) : (s.bookWaitExpires l).Queues q := by
  unfold State.bookWaitExpires
  split
  · exact h.closeBook
  · exact h

theorem crosses (l : LaneNo) (h : s.Queues q) : (s.crosses l).Queues q := by
  unfold State.crosses
  split
  · exact reevaluate h
  · exact h

/-! ## Every command -/

/-- A command completes with the queue untouched when its effect leaves the queue alone. -/
theorem take (f : State → State) (hf : ∀ {u : State}, u.Queues q → (f u).Queues q) (h : s.Queues q) :
    ∃ t, s.take f = .next t ∧ t.Queues q := by
  refine ⟨_, rfl, ?_⟩
  split
  · exact h
  · exact hf h

/-- A line's command, by its event. -/
theorem onLine {i : Inputs} (f : State → State) (hf : ∀ {u : State}, u.Queues q → (f u).Queues q) (h : s.Queues q) :
    ∃ t, s.onLine i f = .next t ∧ t.Queues q := by
  refine ⟨_, rfl, ?_⟩
  split
  · exact h
  · exact hf h

/-- A line's command that makes its event on the asserted level only. -/
theorem onLevel {i : Inputs} (level : Bool) (f : State → State) (hf : ∀ {u : State}, u.Queues q → (f u).Queues q)
    (h : s.Queues q) : ∃ t, (s.onLine i fun u => if level then f u else u) = .next t ∧ t.Queues q := by
  refine h.onLine _ fun hu => ?_
  split
  · exact hf hu
  · exact hu

theorem exec (c : Instr) (h : s.Queues q) : ∃ t, exec c s = .next t ∧ t.Queues q := by
  cases c
  case powerOnReset | resetPinAsserted | hostReadyAsserted => exact ⟨_, rfl, h⟩
  case characterReceived v ok z => exact h.take (·.takeCharacter v ok z) (takeCharacter v ok z)
  case gapTimerExpiry => exact h.take State.gapExpires gapExpires
  case lineBreak => exact h.take (·.dropFrame .break) id
  case storeClearingEnd => exact h.take State.clearingEnds clearingEnds
  case waitingReplyPlaced => exact h.take State.placeWaiting placeWaiting
  case frameStart z => exact h.take (·.startFrame z) (startFrame z)
  case frameSent => exact h.take State.endFrame id
  case starveCrossing l => exact h.take (·.crosses l) (crosses l)
  case dryMoveElapsed => exact h.take State.dryMoveEnds dryMoveEnds
  case homedReport a stale => exact h.take (·.homedReport a stale) (homedReport a stale)
  case gripSettleExpiry level => exact h.take (·.gripSettles level) (gripSettles level)
  case releaseSettleExpiry => exact h.take State.releaseSettles releaseSettles
  case takenPulse l => exact h.take (·.taken l) (taken l)
  case laneTimerExpiry l => exact h.take (·.laneTimerExpires l) (laneTimerExpires l)
  case bookWaitExpiry l => exact h.take (·.bookWaitExpires l) (bookWaitExpires l)
  case safetyLineAsserted => exact h.onLine State.halt halt
  case safetyLineReleased | sawReadyFall => exact h.onLine id id
  case inPositionReport a stale z => exact h.onLine (·.inPosition a stale) (inPosition a stale)
  case sawReadyRise => exact h.onLine State.sawRises sawRises
  case contactAsserted level z => exact h.onLevel level (·.contactRises z) (contactRises z)
  case dropFault level => exact h.onLevel level State.holdLost holdLost
  case driveFaultAsserted a level => exact h.onLevel level (·.inputFault (driveFaultKind a)) (inputFault _)
  case limitAsserted level => exact h.onLevel level (·.inputFault .limit) (inputFault _)
  case resume b z => exact h.take (·.requestArrives (frameOfRequest .resume b) z) (requestArrives _ z)
  all_goals exact h.take (fun u => u.requestArrives { kind := _, body := _ } u.inputs.zReport) (requestArrives _ _)

end State.Queues

/-- Settles O3: `State.Queues.exec` at the command's own queue. -/
theorem everyCommandCompletes : Obligations.EveryCommandCompletes :=
  fun c s => State.Queues.exec (q := s.pending) c rfl

end Sys2Proof.Machine
end
